-- ==== Sys2Proof/Word.lean ====
section
/-! DEFINITION. The byte, the only unit of access of the block (20_memory.md R54), and the closed sets of
names that its operands and registers take their values from (10_state.md R26, 30_encoding.md R91). -/

namespace Sys2Proof

/-- One byte of a frame or of a buffer (00_scope.md R9). -/
abbrev Byte := BitVec 8

/-- Speed-step mode (10_state.md R26). The four names are exactly the four codes of the 2-bit port
(30_encoding.md R91). -/
inductive StepMode where
  | steps14
  | steps28
  | steps128
  | unknown
  deriving DecidableEq, Repr, Inhabited

/-- Mode operand of SET_LOCO_FUNC (30_encoding.md R88, R91). `reserved` is port code 3, which names no mode and
is refused with E_OPERAND (60_exceptions.md R219). -/
inductive FuncMode where
  | off
  | on
  | toggle
  | reserved
  deriving DecidableEq, Repr

/-- Direction operand of SET_TURNOUT (30_encoding.md R89, R91). `reserved` is port code 3, which names no
direction and is refused with E_OPERAND (60_exceptions.md R219). -/
inductive TurnoutDir where
  | off
  | turn
  | forward
  | reserved
  deriving DecidableEq, Repr

end Sys2Proof
end

