-- ==== Sys2Proof/Config.lean ====
section
/-! DEFINITION. What an implementation fixes (00_scope.md R8): the size of the outbound buffer, the two 28-step
tables and the recognised groups; and the free values, which the spec leaves open. A free value is a
constant without a body: no proof can see what it is. -/

namespace Sys2Proof

/-- The implementation parameters of 00_scope.md R8. The tables have 29 and 32 entries by type (10_state.md R38
P1), and `outbufSize` fits a byte, so that every frame length does (40_frame_composer.md R111). -/
structure Config where
  /-- `OUTBUF_SIZE`. -/
  outbufSize : Byte
  /-- `FWD28[0..28]`, logical 28-step speed to wire code (10_state.md R36). -/
  fwd28 : Vector Byte 29
  /-- `REV28[0..31]`, wire code to logical 28-step speed (10_state.md R37). -/
  rev28 : Vector Byte 32
  /-- `RECOGNISED_GROUPS` (30_encoding.md R97). -/
  recognised : List Byte
  deriving DecidableEq, Repr

/-- The 21 group bytes that the rows RX_GROUP_ACK_* of the opcode table name, in the table's order
(30_encoding.md R97, R100). -/
def Config.tableGroups : List Byte :=
  [0x10, 0x1A, 0x30, 0x50, 0x51, 0x60, 0x61, 0x70, 0x71, 0x80, 0x81,
   0x82, 0x84, 0x85, 0x88, 0x89, 0xA0, 0xA1, 0xA2, 0xA3, 0xA4]

/-- What the spec lets a proof assume of a configuration: the legal range of `OUTBUF_SIZE` (92_eei_decisions.md
D6), P2 to P4 of 10_state.md R38, G1 of 30_encoding.md R97. -/
abbrev Config.Ok (c : Config) : Prop :=
  22 ≤ c.outbufSize.toNat ∧
  c.fwd28[15] = 9 ∧ c.rev28[9] = 15 ∧
  (∀ s : Fin 29, c.rev28[c.fwd28[s].toNat]? = some (BitVec.ofNat 8 s)) ∧
  (∀ v : Fin 32, c.rev28[v].toNat ≤ 28) ∧
  (0x40 : Byte) ∉ c.recognised

/-! Free values. The argument `n` is a number that the step takes afresh (State.draws; log 8). -/

/-- `draw_7`, the speed of 43_loco_info_decode.md R182 that the spec leaves open (93_implementation_defined.md
U3, U4). -/
opaque Config.drawSpeed : Nat → BitVec 7

/-- What byte `i` of an operand buffer reads as where the host claims more bytes than it drives: "whatever lies
there" (70_reset_and_hazards.md R257). -/
opaque Config.undrivenByte : Nat → Nat → Byte

/-! `RESET_CACHE`: what reset `n` leaves in the cache registers (10_state.md R42, 93_implementation_defined.md U5). -/

opaque Config.resetLocoAddr : Nat → BitVec 16
opaque Config.resetLocoSpeed : Nat → BitVec 7
opaque Config.resetLocoSteps : Nat → StepMode
opaque Config.resetLocoDir : Nat → Bool
opaque Config.resetLocoLight : Nat → Bool
opaque Config.resetLocoFunc : Nat → BitVec 28
opaque Config.resetLocoOcc : Nat → Bool
opaque Config.resetCvNum : Nat → BitVec 16
opaque Config.resetCvVal : Nat → Byte
opaque Config.resetLibAddr : Nat → BitVec 16
opaque Config.resetLibName : Nat → Vector Byte 10
opaque Config.resetLibIndex : Nat → Byte
opaque Config.resetLibCount : Nat → Byte

end Sys2Proof
end

