-- ==== Sys2Proof/Machine/Defaults.lean ====
section
/-! DEFINITION. The configuration that the spec supplies as its default (00_scope.md R8). -/

namespace Sys2Proof

/-- The spec's defaults (DESIGN CHOICE of the spec, D6, D17, D18; log 3): `OUTBUF_SIZE` of 00_scope.md R8, the
tables of 10_state.md R36 and R37, the groups of 30_encoding.md R97. -/
def Config.default : Config where
  outbufSize := 30
  fwd28 := #v[0x00, 0x02, 0x12, 0x03, 0x13, 0x04, 0x14, 0x05, 0x15, 0x06, 0x16, 0x07, 0x17, 0x08, 0x18,
              0x09, 0x19, 0x0A, 0x1A, 0x0B, 0x1B, 0x0C, 0x1C, 0x0D, 0x1D, 0x0E, 0x1E, 0x0F, 0x1F]
  rev28 := #v[0, 0, 1, 3, 5, 7, 9, 11, 13, 15, 17, 19, 21, 23, 25, 27,
              0, 0, 2, 4, 6, 8, 10, 12, 14, 16, 18, 20, 22, 24, 26, 28]
  recognised := Config.tableGroups

end Sys2Proof
end

