-- ==== Sys2Proof/Syntax.lean ====
section
/-! DEFINITION. The command port, as the host drives it (30_encoding.md R90, R91), and the instructions: one
constructor per row of spec/opcode_table.json, 18 host commands (R90) and 33 rows of inbound frames (R95 to R98,
R100). -/

namespace Sys2Proof

/-- The operand ports of 30_encoding.md R91 beside the command code of R90. `aPayload` and `rx` hold the bytes
the host really drives, `aN` and `rxLen` how many it says there are (70_reset_and_hazards.md R257). -/
structure Port where
  cmdOp : BitVec 5
  aGroup : Byte
  aN : Byte
  aPayload : List Byte
  aCs : Bool
  aFlags : BitVec 32
  aAddr : BitVec 14
  aSteps : BitVec 2
  aSpeed : BitVec 7
  aDir : Bool
  aFn : BitVec 6
  aMode : BitVec 2
  aTaddr : BitVec 16
  aTdir : BitVec 2
  aCv : BitVec 16
  aVal : Byte
  rx : List Byte
  rxLen : BitVec 16
  deriving DecidableEq, Repr

/-- The instructions. The constructors up to `rdReady` are the host commands. The others are what a PROCESS
command decodes to when its buffer is long enough for its class: the rows of format RX, each with the fields its
rule reads. -/
inductive Instr where
  /-- COMPOSE, 40_frame_composer.md R111; `a_n` is the length of `payload`. -/
  | compose (group : Byte) (payload : List Byte) (cs : Bool)
  /-- GET_STATUS, 41_compose_operations.md R130. -/
  | getStatus
  /-- TRACK_OFF, R131. -/
  | trackOff
  /-- TRACK_ON, R132. -/
  | trackOn
  /-- GET_FW_VERSION, R133. -/
  | getFwVersion
  /-- SET_BCAST, R134. -/
  | setBcast (flags : BitVec 32)
  /-- GET_LOCO_INFO, R135. -/
  | getLocoInfo (addr : BitVec 14)
  /-- SET_LOCO_DRIVE, R136. -/
  | setLocoDrive (addr : BitVec 14) (steps : StepMode) (speed : BitVec 7) (dir : Bool)
  /-- SET_LOCO_FUNC, R137. -/
  | setLocoFunc (addr : BitVec 14) (fn : BitVec 6) (mode : FuncMode)
  /-- SET_TURNOUT, R138. -/
  | setTurnout (taddr : BitVec 16) (tdir : TurnoutDir)
  /-- CV_READ, R139. -/
  | cvRead (cv : BitVec 16)
  /-- CV_WRITE, R140. -/
  | cvWrite (cv : BitVec 16) (val : Byte)
  /-- PULL, 40_frame_composer.md R112. -/
  | pull
  /-- PROCESS, 42_frame_decoder.md R150, over a whole inbound buffer. -/
  | process (rx : List Byte)
  /-- RD_LOCO, 44_accessors.md R200. -/
  | rdLoco
  /-- RD_CV, R201. -/
  | rdCv
  /-- RD_LIB, R202. -/
  | rdLib
  /-- RD_READY, R203. -/
  | rdReady
  /-- RX_STATUS with `RX[5] = 0x00`, 42_frame_decoder.md R154. -/
  | rxStatusTrackOff
  /-- RX_STATUS with `RX[5] = 0x01`, R154. -/
  | rxStatusTrackOn
  /-- RX_STATUS with `RX[5] = 0x02`, R154. -/
  | rxStatusProgMode
  /-- RX_STATUS with `RX[5] = 0x13`, R154. -/
  | rxStatusCvNack
  /-- RX_STATUS with any other `RX[5]`, R154. -/
  | rxStatusOther (key : Byte)
  /-- RX_POWER with `RX[6] = 0x00`, R155. -/
  | rxPowerTrackOn
  /-- RX_POWER with `RX[6] = 0x20`, R155. -/
  | rxPowerProgMode
  /-- RX_POWER with any other `RX[6]`, R155. -/
  | rxPowerOther (key : Byte)
  /-- RX_CV_RESULT, R156: the 0-based number on the wire and the value. -/
  | rxCvResult (wireNum : BitVec 16) (val : Byte)
  /-- RX_LOCO_INFO, 43_loco_info_decode.md R180: the wire address, the 3-bit mode field, the occupied flag, the
  7-bit wire speed code, the direction, the light and the function bitmap (30_encoding.md R86, R87). -/
  | rxLocoInfo (wireAddr : BitVec 16) (mode : BitVec 3) (occ : Bool) (code : BitVec 7) (dir : Bool)
      (light : Bool) (func : BitVec 28)
  /-- RX_XBUS_OTHER, R157: any other sub-opcode of group 0x40. -/
  | rxXbusOther (sub : Byte)
  /-- RX_GROUP_ACK_10 (serial number), R151. -/
  | rxGroupAck10
  /-- RX_GROUP_ACK_1A (hardware info), R151. -/
  | rxGroupAck1A
  /-- RX_GROUP_ACK_30 (logoff), R151. -/
  | rxGroupAck30
  /-- RX_GROUP_ACK_50 (broadcast flags), R151. -/
  | rxGroupAck50
  /-- RX_GROUP_ACK_51 (broadcast flags), R151. -/
  | rxGroupAck51
  /-- RX_GROUP_ACK_60 (loco/turnout mode queries), R151. -/
  | rxGroupAck60
  /-- RX_GROUP_ACK_61 (loco/turnout mode queries), R151. -/
  | rxGroupAck61
  /-- RX_GROUP_ACK_70 (loco/turnout mode queries), R151. -/
  | rxGroupAck70
  /-- RX_GROUP_ACK_71 (loco/turnout mode queries), R151. -/
  | rxGroupAck71
  /-- RX_GROUP_ACK_80 (feedback-bus queries), R151. -/
  | rxGroupAck80
  /-- RX_GROUP_ACK_81 (feedback-bus queries), R151. -/
  | rxGroupAck81
  /-- RX_GROUP_ACK_82 (feedback-bus queries), R151. -/
  | rxGroupAck82
  /-- RX_GROUP_ACK_84 (system-state), R151. -/
  | rxGroupAck84
  /-- RX_GROUP_ACK_85 (system-state), R151. -/
  | rxGroupAck85
  /-- RX_GROUP_ACK_88 (RailCom), R151. -/
  | rxGroupAck88
  /-- RX_GROUP_ACK_89 (RailCom), R151. -/
  | rxGroupAck89
  /-- RX_GROUP_ACK_A0 (LocoNet variants), R151. -/
  | rxGroupAckA0
  /-- RX_GROUP_ACK_A1 (LocoNet variants), R151. -/
  | rxGroupAckA1
  /-- RX_GROUP_ACK_A2 (LocoNet variants), R151. -/
  | rxGroupAckA2
  /-- RX_GROUP_ACK_A3 (LocoNet variants), R151. -/
  | rxGroupAckA3
  /-- RX_GROUP_ACK_A4 (LocoNet variants), R151. -/
  | rxGroupAckA4
  /-- RX_GROUP_UNREC, R152: a group byte that no other row names. -/
  | rxGroupUnrec (group : Byte)
  deriving DecidableEq, Repr

end Sys2Proof
end

