-- ==== Sys2Proof/Machine/State.lean ====
section
/-! DEFINITION. The state of the block (10_state.md R20), the responses of its steps (R40, R41), what the host may
do to it (70_reset_and_hazards.md R250), and the state after reset (10_state.md R42). -/

namespace Sys2Proof.Machine

/-- Status of a step (60_exceptions.md R210). -/
inductive Status where
  | ok
  | rxFail
  | rxTrunc
  | eOverflow
  | eEmptyCs
  | eSteps
  | eSpeed
  | eOperand
  | eCmd
  deriving DecidableEq, Repr

/-- `DecodedEventKind` (10_state.md R40). `version`, `fwVersion` and `libData` are produced by no rule
(90_conflicts.md C3). -/
inductive EventTag where
  | noEvent
  | trackOn
  | trackOff
  | progMode
  | cvNack
  | cvResult
  | locoInfo
  | version
  | fwVersion
  | libData
  | unknown
  deriving DecidableEq, Repr

/-- The locomotive cache (10_state.md R24 to R30). -/
structure LocoCache where
  addr : BitVec 16
  speed : BitVec 7
  steps : StepMode
  /-- 1 is forward (R27). -/
  dir : Bool
  light : Bool
  func : BitVec 28
  occ : Bool
  deriving DecidableEq, Repr

/-- The CV result cache (10_state.md R31, R32). -/
structure CvCache where
  num : BitVec 16
  val : Byte
  deriving DecidableEq, Repr

/-- The loc-library cache (10_state.md R33), which no rule writes. -/
structure LibCache where
  addr : BitVec 16
  name : Vector Byte 10
  index : Byte
  count : Byte
  deriving DecidableEq, Repr

/-- What a step hands back to the host (10_state.md R41; the response column of 30_encoding.md R90). -/
inductive Response where
  /-- A compose command or an undefined `cmd_op`. -/
  | status (st : Status)
  /-- PULL (40_frame_composer.md R112). -/
  | pull (st : Status) (valid : Bool) (len : Byte) (data : List Byte)
  /-- PROCESS (42_frame_decoder.md R150). -/
  | process (st : Status) (ev : EventTag)
  /-- RD_LOCO (44_accessors.md R200). -/
  | loco (st : Status) (cache : LocoCache)
  /-- RD_CV (R201). -/
  | cv (st : Status) (cache : CvCache)
  /-- RD_LIB (R202). -/
  | lib (st : Status) (cache : LibCache)
  /-- RD_READY (R203). -/
  | ready (st : Status) (ready : Bool)
  deriving DecidableEq, Repr

/-- What the host does next: a command (00_scope.md R6) or reset (70_reset_and_hazards.md R240). -/
inductive Stimulus where
  | reset
  | command (port : Port)
  deriving DecidableEq, Repr

/-- The bytes of `TXBUF` that a compose has written, by index, in strictly rising order. An index that is not
listed holds no value (log 6). -/
abbrev Memory := List Host.Cell

/-- The canonical form: the indices rise strictly. -/
abbrev Memory.wf (m : Memory) : Prop := m.Pairwise (fun p q => p.1 < q.1)

/-- Why the machine stops. -/
inductive Fault where
  /-- PULL reads a byte of `TXBUF` that nothing has written since reset (log 6). Safe: the block goes on with a
  byte the spec leaves unspecified; no run from reset meets it (Safety.lean, `State.Inv`). -/
  | txbufUnwritten
  /-- PULL reads an index of `TXBUF` at or above `OUTBUF_SIZE`, which the spec says does not exist (20_memory.md
  R55; log 7). Safe; no run from reset meets it. -/
  | txbufRange
  deriving DecidableEq, Repr

/-- Why an instruction has no meaning. -/
inductive Refusal where
  /-- The instruction of that mnemonic is not modelled. Raised by no arm: every instruction has its meaning. Safe. -/
  | notModelled (mnemonic : String)
  deriving DecidableEq, Repr

/-- The state of the machine: the registers of 10_state.md R20 and the constant tables and parameters of
00_scope.md R8; the last three fields are the model's own (logs 1, 2, 8). -/
structure State where
  /-- `FWD28`, `REV28`, `RECOGNISED_GROUPS`, `OUTBUF_SIZE`. -/
  cfg : Config
  /-- `TXBUF` (R21). -/
  txbuf : Memory
  /-- `tx_len` (R22). -/
  txLen : Byte
  /-- `tx_ready` (R23). -/
  txReady : Bool
  /-- `loco.*`. -/
  loco : LocoCache
  /-- `cv.*`. -/
  cv : CvCache
  /-- `lib.*`. -/
  lib : LibCache
  /-- What the host will do, the next first (log 1). -/
  inbox : List Stimulus
  /-- What the step just made handed back (log 2). -/
  response : Option Response
  /-- The next number for a free value (log 8). -/
  draws : Nat
  deriving DecidableEq, Repr

/-- The outcome of an instruction or a step. -/
abbrev Result := Host.Outcome State Fault Refusal

/-- What reset number `n` leaves in `loco.*` (10_state.md R42, log 4). -/
def LocoCache.unspecified (n : Nat) : LocoCache where
  addr := Config.resetLocoAddr n
  speed := Config.resetLocoSpeed n
  steps := Config.resetLocoSteps n
  dir := Config.resetLocoDir n
  light := Config.resetLocoLight n
  func := Config.resetLocoFunc n
  occ := Config.resetLocoOcc n

/-- What reset number `n` leaves in `cv.*` (10_state.md R42, log 4). -/
def CvCache.unspecified (n : Nat) : CvCache where
  num := Config.resetCvNum n
  val := Config.resetCvVal n

/-- What reset number `n` leaves in `lib.*` (10_state.md R42, log 4). -/
def LibCache.unspecified (n : Nat) : LibCache where
  addr := Config.resetLibAddr n
  name := Config.resetLibName n
  index := Config.resetLibIndex n
  count := Config.resetLibCount n

/-- The machine right after reset (10_state.md R42): nothing pending, `tx_len` 0, the caches unspecified, the
tables at their constant contents, and a host that has not issued a command yet. -/
def State.reset : State where
  cfg := Config.default
  txbuf := []
  txLen := 0
  txReady := false
  loco := LocoCache.unspecified 0
  cv := CvCache.unspecified 0
  lib := LibCache.unspecified 0
  inbox := []
  response := none
  draws := 1

end Sys2Proof.Machine
end

