-- ==== Sys2Proof/Machine/Flags.lean ====
section
/-! DEFINITION. `tx_ready`, the block's only flag (10_state.md R23, R39): a successful compose sets it and PULL
clears it, nothing else writes it (40_frame_composer.md R114). -/

namespace Sys2Proof.Machine

/-- A frame is pending. -/
def State.raiseReady (s : State) : State := { s with txReady := true }

/-- The pending frame has been handed over. -/
def State.clearReady (s : State) : State := { s with txReady := false }

end Sys2Proof.Machine
end

