-- ==== Sys2Proof/WellFormed.lean ====
section
/-! DEFINITION. Which instructions are well formed: the ones some command port decodes to. A field has to be one
that its row of the opcode table admits (30_encoding.md R98), a payload has to fit `a_n` (R91), and a PROCESS
left undecoded has to be a buffer too short for its class (42_frame_decoder.md R158). -/

namespace Sys2Proof

/-- The table of 42_frame_decoder.md R158: the least `rx_len` of the class that a buffer's bytes select. -/
def leastLength (rx : List Byte) : Nat :=
  match rx[2]? with
  | none => 3
  | some g =>
    if g = 0x40 then
      match rx[4]? with
      | none => 5
      | some sub =>
        if sub = 0x61 then 6 else if sub = 0x62 then 7 else if sub = 0x64 then 9
        else if sub = 0xEF then 13 else 5
    else 3

/-- The buffer is shorter than its class needs (42_frame_decoder.md R158). -/
def truncated (rx : List Byte) : Bool := rx.length < leastLength rx

/-- Well-formedness of an instruction. -/
def Instr.wellFormed : Instr → Bool
  | .compose _ payload _ => payload.length ≤ 255
  | .process rx => truncated rx && rx.length ≤ 65535
  | .rxStatusOther key => key ∉ [0x00, 0x01, 0x02, 0x13]
  | .rxPowerOther key => key ∉ [0x00, 0x20]
  | .rxXbusOther sub => sub ∉ [0x61, 0x62, 0x64, 0xEF]
  | .rxGroupUnrec group => group ≠ 0x40 && group ∉ Config.tableGroups
  | .getStatus => true
  | .trackOff => true
  | .trackOn => true
  | .getFwVersion => true
  | .setBcast _ => true
  | .getLocoInfo _ => true
  | .setLocoDrive _ _ _ _ => true
  | .setLocoFunc _ _ _ => true
  | .setTurnout _ _ => true
  | .cvRead _ => true
  | .cvWrite _ _ => true
  | .pull => true
  | .rdLoco => true
  | .rdCv => true
  | .rdLib => true
  | .rdReady => true
  | .rxStatusTrackOff => true
  | .rxStatusTrackOn => true
  | .rxStatusProgMode => true
  | .rxStatusCvNack => true
  | .rxPowerTrackOn => true
  | .rxPowerProgMode => true
  | .rxCvResult _ _ => true
  | .rxLocoInfo _ _ _ _ _ _ _ => true
  | .rxGroupAck10 => true
  | .rxGroupAck1A => true
  | .rxGroupAck30 => true
  | .rxGroupAck50 => true
  | .rxGroupAck51 => true
  | .rxGroupAck60 => true
  | .rxGroupAck61 => true
  | .rxGroupAck70 => true
  | .rxGroupAck71 => true
  | .rxGroupAck80 => true
  | .rxGroupAck81 => true
  | .rxGroupAck82 => true
  | .rxGroupAck84 => true
  | .rxGroupAck85 => true
  | .rxGroupAck88 => true
  | .rxGroupAck89 => true
  | .rxGroupAckA0 => true
  | .rxGroupAckA1 => true
  | .rxGroupAckA2 => true
  | .rxGroupAckA3 => true
  | .rxGroupAckA4 => true

end Sys2Proof
end

