-- ==== Sys2Proof/Decode.lean ====
section
/-! DEFINITION. From the command port to an instruction and back. The decoder is total: it selects a command by
`cmd_op` (30_encoding.md R90), refuses the other codes by name (60_exceptions.md R220), takes each operand from
its port (R91), and resolves a PROCESS whose buffer is long enough to its row of inbound frames
(42_frame_decoder.md R150, R158). -/

namespace Sys2Proof

/-! Byte helpers (00_scope.md R9, R10). -/

/-- `x[15:8]`. -/
def hiByte (x : BitVec 16) : Byte := x.extractLsb' 8 8

/-- `x[7:0]`. -/
def loByte (x : BitVec 16) : Byte := x.extractLsb' 0 8

/-- `BE16(a, b)`, with `a` as the high byte (00_scope.md R10). -/
def be16 (a b : Byte) : BitVec 16 := a ++ b

/-- `RX[i]`. Every use stands behind a length check that puts `i` below the length (20_memory.md R55), so the
value beyond the end is never read. -/
def byteAt (rx : List Byte) (i : Nat) : Byte := rx.getD i 0

/-! Codes of the enumerated operand ports (30_encoding.md R91). -/

/-- `a_steps`. -/
def stepModeOfCode (c : BitVec 2) : StepMode :=
  if c = 0 then .steps14 else if c = 1 then .steps28 else if c = 2 then .steps128 else .unknown

/-- The code of a step mode, on the `a_steps` port and in the RD_LOCO response (10_state.md R26). -/
def stepModeCode : StepMode → BitVec 2
  | .steps14 => 0
  | .steps28 => 1
  | .steps128 => 2
  | .unknown => 3

/-- `a_mode`. -/
def funcModeOfCode (c : BitVec 2) : FuncMode :=
  if c = 0 then .off else if c = 1 then .on else if c = 2 then .toggle else .reserved

/-- The code of a function mode (30_encoding.md R88). -/
def funcModeCode : FuncMode → BitVec 2
  | .off => 0
  | .on => 1
  | .toggle => 2
  | .reserved => 3

/-- `a_tdir`. -/
def turnoutDirOfCode (c : BitVec 2) : TurnoutDir :=
  if c = 0 then .off else if c = 1 then .turn else if c = 2 then .forward else .reserved

/-- The code of a turnout direction on the `a_tdir` port. -/
def turnoutDirCode : TurnoutDir → BitVec 2
  | .off => 0
  | .turn => 1
  | .forward => 2
  | .reserved => 3

/-! The rows of inbound frames (30_encoding.md R95 to R98). -/

/-- Rows of RX_STATUS by `RX[5]` (42_frame_decoder.md R154). -/
def statusRow (key : Byte) : Instr :=
  if key = 0x00 then .rxStatusTrackOff
  else if key = 0x01 then .rxStatusTrackOn
  else if key = 0x02 then .rxStatusProgMode
  else if key = 0x13 then .rxStatusCvNack
  else .rxStatusOther key

/-- Rows of RX_POWER by `RX[6]`, compared whole (42_frame_decoder.md R155). -/
def powerRow (key : Byte) : Instr :=
  if key = 0x00 then .rxPowerTrackOn
  else if key = 0x20 then .rxPowerProgMode
  else .rxPowerOther key

/-- The fields of RX_LOCO_INFO (43_loco_info_decode.md R180; 30_encoding.md R86, R87). -/
def locoInfoRow (rx : List Byte) : Instr :=
  .rxLocoInfo (be16 (byteAt rx 5) (byteAt rx 6))
    ((byteAt rx 7).extractLsb' 0 3) ((byteAt rx 7).getLsbD 3)
    ((byteAt rx 8).extractLsb' 0 7) ((byteAt rx 8).getLsbD 7)
    ((byteAt rx 9).getLsbD 4)
    (byteAt rx 12 ++ byteAt rx 11 ++ byteAt rx 10 ++ (byteAt rx 9).extractLsb' 0 4)

/-- The rows RX_GROUP_ACK_* of the opcode table, by group byte (30_encoding.md R97, R100). -/
def groupRows : List (Byte × Instr) :=
  [(0x10, .rxGroupAck10),
   (0x1A, .rxGroupAck1A),
   (0x30, .rxGroupAck30),
   (0x50, .rxGroupAck50),
   (0x51, .rxGroupAck51),
   (0x60, .rxGroupAck60),
   (0x61, .rxGroupAck61),
   (0x70, .rxGroupAck70),
   (0x71, .rxGroupAck71),
   (0x80, .rxGroupAck80),
   (0x81, .rxGroupAck81),
   (0x82, .rxGroupAck82),
   (0x84, .rxGroupAck84),
   (0x85, .rxGroupAck85),
   (0x88, .rxGroupAck88),
   (0x89, .rxGroupAck89),
   (0xA0, .rxGroupAckA0),
   (0xA1, .rxGroupAckA1),
   (0xA2, .rxGroupAckA2),
   (0xA3, .rxGroupAckA3),
   (0xA4, .rxGroupAckA4)]

/-- The row of a group byte other than 0x40 (42_frame_decoder.md R151, R152). -/
def groupRow (g : Byte) : Instr := (groupRows.lookup g).getD (.rxGroupUnrec g)

/-- Inner dispatch on `RX[4]` (42_frame_decoder.md R153), with the length check of the class (R158). -/
def decodeXbus (rx : List Byte) : Option Instr :=
  if byteAt rx 4 = 0x61 then
    if rx.length < 6 then none else some (statusRow (byteAt rx 5))
  else if byteAt rx 4 = 0x62 then
    if rx.length < 7 then none else some (powerRow (byteAt rx 6))
  else if byteAt rx 4 = 0x64 then
    if rx.length < 9 then none
    else some (.rxCvResult (be16 (byteAt rx 6) (byteAt rx 7)) (byteAt rx 8))
  else if byteAt rx 4 = 0xEF then
    if rx.length < 13 then none else some (locoInfoRow rx)
  else some (.rxXbusOther (byteAt rx 4))

/-- The row of an inbound buffer, or none where the buffer is too short for its class. The checks stand in the
order of 42_frame_decoder.md R150, R158: length 3, group, length 5, sub-opcode, class length. -/
def decodeFrame (rx : List Byte) : Option Instr :=
  if rx.length < 3 then none
  else if byteAt rx 2 = 0x40 then
    if rx.length < 5 then none else decodeXbus rx
  else some (groupRow (byteAt rx 2))

/-! The command port. -/

/-- Why a command port holds no instruction. -/
inductive DecodeError where
  /-- `cmd_op` is 0x00 or 0x13 to 0x1F (60_exceptions.md R220); the step answers E_CMD. -/
  | undefinedCommand
  deriving DecidableEq, Repr

/-- The first `n` bytes of what the host drives; where it drives fewer, the rest is `fill`
(70_reset_and_hazards.md R257). -/
def drivenBytes (fill : Nat → Byte) (n : Nat) (bs : List Byte) : List Byte :=
  bs.take n ++ (List.range' bs.length (n - bs.length)).map fill

/-- A PROCESS command: the row of its buffer, or the PROCESS itself where the buffer is too short. -/
def decodeProcess (rx : List Byte) : Instr := (decodeFrame rx).getD (.process rx)

/-- The decoder (30_encoding.md R90, R91). `fill` is what undriven bytes read as. -/
def decode (fill : Nat → Byte) (p : Port) : Except DecodeError Instr :=
  match p.cmdOp.toNat with
  | 0x01 => .ok (.compose p.aGroup (drivenBytes fill p.aN.toNat p.aPayload) p.aCs)
  | 0x02 => .ok .getStatus
  | 0x03 => .ok .trackOff
  | 0x04 => .ok .trackOn
  | 0x05 => .ok .getFwVersion
  | 0x06 => .ok (.setBcast p.aFlags)
  | 0x07 => .ok (.getLocoInfo p.aAddr)
  | 0x08 => .ok (.setLocoDrive p.aAddr (stepModeOfCode p.aSteps) p.aSpeed p.aDir)
  | 0x09 => .ok (.setLocoFunc p.aAddr p.aFn (funcModeOfCode p.aMode))
  | 0x0A => .ok (.setTurnout p.aTaddr (turnoutDirOfCode p.aTdir))
  | 0x0B => .ok (.cvRead p.aCv)
  | 0x0C => .ok (.cvWrite p.aCv p.aVal)
  | 0x0D => .ok .pull
  | 0x0E => .ok (decodeProcess (drivenBytes fill p.rxLen.toNat p.rx))
  | 0x0F => .ok .rdLoco
  | 0x10 => .ok .rdCv
  | 0x11 => .ok .rdLib
  | 0x12 => .ok .rdReady
  | _ => .error .undefinedCommand

/-! The encoder. -/

/-- A port with nothing driven. -/
def Port.quiet : Port where
  cmdOp := 0
  aGroup := 0
  aN := 0
  aPayload := []
  aCs := false
  aFlags := 0
  aAddr := 0
  aSteps := 0
  aSpeed := 0
  aDir := false
  aFn := 0
  aMode := 0
  aTaddr := 0
  aTdir := 0
  aCv := 0
  aVal := 0
  rx := []
  rxLen := 0

/-- The port of a PROCESS command with its whole buffer driven. -/
def Port.ofFrame (rx : List Byte) : Port :=
  { Port.quiet with cmdOp := 0x0E, rx := rx, rxLen := BitVec.ofNat 16 rx.length }

/-- The shortest frame of RX_LOCO_INFO with the given fields (43_loco_info_decode.md R180), its unread bits 0. -/
def locoInfoFrame (wireAddr : BitVec 16) (mode : BitVec 3) (occ : Bool) (code : BitVec 7) (dir light : Bool)
    (func : BitVec 28) : List Byte :=
  [0x0D, 0x00, 0x40, 0x00, 0xEF, hiByte wireAddr, loByte wireAddr,
   (0#4 ++ BitVec.ofBool occ ++ mode : BitVec 8),
   (BitVec.ofBool dir ++ code : BitVec 8),
   (0#3 ++ BitVec.ofBool light ++ func.extractLsb' 0 4 : BitVec 8),
   func.extractLsb' 4 8, func.extractLsb' 12 8, func.extractLsb' 20 8]

/-- The encoder: the port that drives an instruction, with the ports its command does not list at 0, and for a row
of inbound frames the shortest frame of the row with the bytes it does not read at 0 (30_encoding.md R90, R91, R98). -/
def encode : Instr → Port
  | .compose group payload cs =>
    { Port.quiet with cmdOp := 0x01, aGroup := group, aN := BitVec.ofNat 8 payload.length, aPayload := payload,
                      aCs := cs }
  | .getStatus => { Port.quiet with cmdOp := 0x02 }
  | .trackOff => { Port.quiet with cmdOp := 0x03 }
  | .trackOn => { Port.quiet with cmdOp := 0x04 }
  | .getFwVersion => { Port.quiet with cmdOp := 0x05 }
  | .setBcast flags => { Port.quiet with cmdOp := 0x06, aFlags := flags }
  | .getLocoInfo addr => { Port.quiet with cmdOp := 0x07, aAddr := addr }
  | .setLocoDrive addr steps speed dir =>
    { Port.quiet with cmdOp := 0x08, aAddr := addr, aSteps := stepModeCode steps, aSpeed := speed, aDir := dir }
  | .setLocoFunc addr fn mode =>
    { Port.quiet with cmdOp := 0x09, aAddr := addr, aFn := fn, aMode := funcModeCode mode }
  | .setTurnout taddr tdir =>
    { Port.quiet with cmdOp := 0x0A, aTaddr := taddr, aTdir := turnoutDirCode tdir }
  | .cvRead cv => { Port.quiet with cmdOp := 0x0B, aCv := cv }
  | .cvWrite cv val => { Port.quiet with cmdOp := 0x0C, aCv := cv, aVal := val }
  | .pull => { Port.quiet with cmdOp := 0x0D }
  | .process rx => Port.ofFrame rx
  | .rdLoco => { Port.quiet with cmdOp := 0x0F }
  | .rdCv => { Port.quiet with cmdOp := 0x10 }
  | .rdLib => { Port.quiet with cmdOp := 0x11 }
  | .rdReady => { Port.quiet with cmdOp := 0x12 }
  | .rxStatusTrackOff => Port.ofFrame [0x06, 0x00, 0x40, 0x00, 0x61, 0x00]
  | .rxStatusTrackOn => Port.ofFrame [0x06, 0x00, 0x40, 0x00, 0x61, 0x01]
  | .rxStatusProgMode => Port.ofFrame [0x06, 0x00, 0x40, 0x00, 0x61, 0x02]
  | .rxStatusCvNack => Port.ofFrame [0x06, 0x00, 0x40, 0x00, 0x61, 0x13]
  | .rxStatusOther key => Port.ofFrame [0x06, 0x00, 0x40, 0x00, 0x61, key]
  | .rxPowerTrackOn => Port.ofFrame [0x07, 0x00, 0x40, 0x00, 0x62, 0x00, 0x00]
  | .rxPowerProgMode => Port.ofFrame [0x07, 0x00, 0x40, 0x00, 0x62, 0x00, 0x20]
  | .rxPowerOther key => Port.ofFrame [0x07, 0x00, 0x40, 0x00, 0x62, 0x00, key]
  | .rxCvResult wireNum val =>
    Port.ofFrame [0x09, 0x00, 0x40, 0x00, 0x64, 0x00, hiByte wireNum, loByte wireNum, val]
  | .rxLocoInfo wireAddr mode occ code dir light func =>
    Port.ofFrame (locoInfoFrame wireAddr mode occ code dir light func)
  | .rxXbusOther sub => Port.ofFrame [0x05, 0x00, 0x40, 0x00, sub]
  | .rxGroupAck10 => Port.ofFrame [0x03, 0x00, 0x10]
  | .rxGroupAck1A => Port.ofFrame [0x03, 0x00, 0x1A]
  | .rxGroupAck30 => Port.ofFrame [0x03, 0x00, 0x30]
  | .rxGroupAck50 => Port.ofFrame [0x03, 0x00, 0x50]
  | .rxGroupAck51 => Port.ofFrame [0x03, 0x00, 0x51]
  | .rxGroupAck60 => Port.ofFrame [0x03, 0x00, 0x60]
  | .rxGroupAck61 => Port.ofFrame [0x03, 0x00, 0x61]
  | .rxGroupAck70 => Port.ofFrame [0x03, 0x00, 0x70]
  | .rxGroupAck71 => Port.ofFrame [0x03, 0x00, 0x71]
  | .rxGroupAck80 => Port.ofFrame [0x03, 0x00, 0x80]
  | .rxGroupAck81 => Port.ofFrame [0x03, 0x00, 0x81]
  | .rxGroupAck82 => Port.ofFrame [0x03, 0x00, 0x82]
  | .rxGroupAck84 => Port.ofFrame [0x03, 0x00, 0x84]
  | .rxGroupAck85 => Port.ofFrame [0x03, 0x00, 0x85]
  | .rxGroupAck88 => Port.ofFrame [0x03, 0x00, 0x88]
  | .rxGroupAck89 => Port.ofFrame [0x03, 0x00, 0x89]
  | .rxGroupAckA0 => Port.ofFrame [0x03, 0x00, 0xA0]
  | .rxGroupAckA1 => Port.ofFrame [0x03, 0x00, 0xA1]
  | .rxGroupAckA2 => Port.ofFrame [0x03, 0x00, 0xA2]
  | .rxGroupAckA3 => Port.ofFrame [0x03, 0x00, 0xA3]
  | .rxGroupAckA4 => Port.ofFrame [0x03, 0x00, 0xA4]
  | .rxGroupUnrec group => Port.ofFrame [0x03, 0x00, group]

/-! The numbers of spec/opcode_table.json (30_encoding.md R100). -/

/-- Byte `i` of an `n`-byte number whose byte 0 is the most significant (R100: "byte 0 of the frame first (most
significant)"). -/
def tableByte (n w i : Nat) : Byte := BitVec.ofNat 8 (w >>> (8 * (n - 1 - i)))

/-- The port that drives the table's number `w` of `nbits` bits. Up to 8 bits it is a `cmd_op`, every operand
port 0; above, it is the first bytes of an inbound frame, filled with zero bytes up to the 13 that the longest
class reads (log 12). -/
def portOfWord (nbits w : Nat) : Port :=
  if nbits ≤ 8 then { Port.quiet with cmdOp := BitVec.ofNat 5 w }
  else
    let n := (nbits + 7) / 8
    Port.ofFrame ((List.range n).map (tableByte n w) ++ List.replicate (13 - n) 0)

/-- The instruction that the decoder reads from the table's number `w` of `nbits` bits. -/
def decodeTableWord (nbits w : Nat) : Option Instr := (decode (fun _ => 0) (portOfWord nbits w)).toOption

end Sys2Proof
end

