-- ==== Sys2Proof/Machine/Operands.lean ====
section
/-! DEFINITION. Operand assembly (30_encoding.md R80 to R89), the checksum (40_frame_composer.md R110), and the
numeric codes of statuses and event tags (60_exceptions.md R210, 10_state.md R40). -/

namespace Sys2Proof.Machine

/-! The locomotive address. -/

/-- `ToWire(a)` (30_encoding.md R80). -/
def toWire (a : BitVec 14) : BitVec 16 :=
  if 128 ≤ a.toNat then a.setWidth 16 ||| 0xC000 else a.setWidth 16

/-- `FromWire(w)` (30_encoding.md R81). -/
def fromWire (w : BitVec 16) : BitVec 16 :=
  if 128 ≤ w.toNat ∧ w &&& 0xC000 = 0xC000 then w &&& 0x3FFF else w

/-! The speed. -/

/-- `PackSpeed(steps, s)` (30_encoding.md R83), or the refusal of 41_compose_operations.md R136: the mode is looked
at before the speed (60_exceptions.md R222). -/
def packSpeed (c : Config) (steps : StepMode) (s : BitVec 7) : Except Status (BitVec 7) :=
  match steps with
  | .steps14 => if s = 127 then .error .eSpeed else .ok (if s = 0 then 0 else s + 1)
  | .steps28 =>
    match c.fwd28[s.toNat]? with
    | some v => .ok (v.setWidth 7)
    | none => .error .eSpeed
  | .steps128 => .ok s
  | .unknown => .error .eSteps

/-- `UnpackSpeed(m, v)` (30_encoding.md R84); no speed where the rule draws one. -/
def unpackSpeed (c : Config) (m : BitVec 3) (v : BitVec 7) : StepMode × Option (BitVec 7) :=
  if m = 0b000 then (.steps14, some (if v = 0 then 0 else v - 1))
  else if m = 0b010 then (.steps28, (c.rev28[v.toNat]?).map (·.setWidth 7))
  else if m = 0b100 then (.steps128, some v)
  else (.unknown, none)

/-- `OP`, the step-opcode of SET_LOCO_DRIVE (30_encoding.md R92); the unknown mode has none. -/
def stepOpcode : StepMode → Option Byte
  | .steps14 => some 0x10
  | .steps28 => some 0x12
  | .steps128 => some 0x13
  | .unknown => none

/-- `SB = {a_dir, v}` (30_encoding.md R83). -/
def speedByte (dir : Bool) (v : BitVec 7) : Byte := BitVec.ofBool dir ++ v

/-! CV numbers. -/

/-- `(cv - 1) mod 2^16` (30_encoding.md R85). -/
def cvToWire (cv : BitVec 16) : BitVec 16 := cv - 1

/-- `(w + 1) mod 2^16` (30_encoding.md R85). -/
def cvFromWire (w : BitVec 16) : BitVec 16 := w + 1

/-! Function and turnout bytes. -/

/-- `FB = {mode, fn}` (30_encoding.md R88); no byte for the code that names no mode. -/
def funcByte (mode : FuncMode) (fn : BitVec 6) : Option Byte :=
  match mode with
  | .off => some (0b00#2 ++ fn)
  | .on => some (0b01#2 ++ fn)
  | .toggle => some (0b10#2 ++ fn)
  | .reserved => none

/-- `DC` (30_encoding.md R89); no byte for the code that names no direction. -/
def turnoutByte : TurnoutDir → Option Byte
  | .off => some 0x80
  | .turn => some 0x88
  | .forward => some 0x89
  | .reserved => none

/-! The frame (30_encoding.md R70). -/

/-- `XorFold` (40_frame_composer.md R110): the first byte seeds the accumulator. -/
def xorFold (seed : Byte) (rest : List Byte) : Byte := rest.foldl (· ^^^ ·) seed

/-- The checksum byte, where one is asked for. A checksum over no byte is refused before (R111). -/
def trailer : Bool → List Byte → List Byte
  | true, b :: bs => [xorFold b bs]
  | true, [] => []
  | false, _ => []

/-- `L = 4 + n + cs` (30_encoding.md R70). -/
def frameLength (payload : List Byte) (cs : Bool) : Nat := 4 + payload.length + cs.toNat

/-- The bytes of a frame of format TX (30_encoding.md R70). -/
def frameBytes (group : Byte) (payload : List Byte) (cs : Bool) : List Byte :=
  [BitVec.ofNat 8 (frameLength payload cs), 0x00, group, 0x00] ++ payload ++ trailer cs payload

/-! Numeric codes. -/

/-- The 4-bit status codes of 60_exceptions.md R210. -/
def statusCode : Status → BitVec 4
  | .ok => 0
  | .rxFail => 1
  | .rxTrunc => 2
  | .eOverflow => 3
  | .eEmptyCs => 4
  | .eSteps => 5
  | .eSpeed => 6
  | .eOperand => 7
  | .eCmd => 8

/-- The 4-bit event codes of 10_state.md R40. -/
def eventCode : EventTag → BitVec 4
  | .noEvent => 0
  | .trackOn => 1
  | .trackOff => 2
  | .progMode => 3
  | .cvNack => 4
  | .cvResult => 5
  | .locoInfo => 6
  | .version => 7
  | .fwVersion => 8
  | .libData => 9
  | .unknown => 10

/-- The status of a response: every command returns one (60_exceptions.md R210). -/
def responseStatus : Response → Status
  | .status st => st
  | .pull st _ _ _ => st
  | .process st _ => st
  | .loco st _ => st
  | .cv st _ => st
  | .lib st _ => st
  | .ready st _ => st

end Sys2Proof.Machine
end

