-- ==== Sys2Proof/Machine/Ops.lean ====
section
/-! DEFINITION. The operations the meanings are made of: `TXBUF` byte by byte, the response, refusing a command,
composing and pulling a frame, the replies to the seven classes of inbound frames, reset, and what a step takes from
the host. -/

namespace Sys2Proof.Machine

/-! `TXBUF` as memory. -/

/-- The byte at an index, if one was written. -/
def Memory.read : Memory → Nat → Option Byte
  | [], _ => none
  | c :: m, i => if c.1 = i then some c.2 else Memory.read m i

/-- `TXBUF[i] <- v`, keeping the canonical form. -/
def Memory.write : Memory → Nat → Byte → Memory
  | [], i, v => [(i, v)]
  | c :: m, i, v =>
    if i < c.1 then (i, v) :: c :: m
    else if i = c.1 then (i, v) :: m
    else c :: Memory.write m i v

/-- The bytes of a list, written from an index up. -/
def Memory.writeBytes : Memory → Nat → List Byte → Memory
  | m, _, [] => m
  | m, i, b :: bs => Memory.writeBytes (Memory.write m i b) (i + 1) bs

/-- One byte read of `TXBUF`: in range (20_memory.md R55) and written. -/
def readTx (s : State) (i : Nat) : Except Fault Byte :=
  if i < s.cfg.outbufSize.toNat then
    match Memory.read s.txbuf i with
    | some b => .ok b
    | none => .error .txbufUnwritten
  else .error .txbufRange

/-- `TXBUF[i..i+n-1]`, in index order. -/
def readTxBytes (s : State) (i : Nat) : Nat → Except Fault (List Byte)
  | 0 => .ok []
  | n + 1 =>
    match readTx s i with
    | .error f => .error f
    | .ok b =>
      match readTxBytes s (i + 1) n with
      | .error f => .error f
      | .ok bs => .ok (b :: bs)

/-! Updates of the state. -/

/-- The response of the step (10_state.md R41). -/
def State.respond (s : State) (r : Response) : State := { s with response := some r }

/-- A frame written into `TXBUF` from index 0, with its length into `tx_len` (40_frame_composer.md R111). Bytes
above it keep what they held (93_implementation_defined.md U10). -/
def State.storeFrame (s : State) (frame : List Byte) : State :=
  { s with txbuf := Memory.writeBytes s.txbuf 0 frame, txLen := BitVec.ofNat 8 frame.length }

/-- All seven `loco.*` registers (43_loco_info_decode.md R187 (a)). -/
def State.setLoco (s : State) (c : LocoCache) : State := { s with loco := c }

/-- Both `cv.*` registers (42_frame_decoder.md R156). -/
def State.setCv (s : State) (c : CvCache) : State := { s with cv := c }

/-- The next free value gets a new number (log 8). -/
def State.nextDraw (s : State) : State := { s with draws := s.draws + 1 }

/-- What the host did is taken off its list; the response of the step before is no longer on the port. -/
def State.take (s : State) (rest : List Stimulus) : State := { s with inbox := rest, response := none }

/-! Refusals. -/

/-- `refuse <Status>` (00_scope.md R11): the status is returned and nothing is written (60_exceptions.md R212).
It stands where other machines take an exception (R223, R224). -/
def refuse (st : Status) (s : State) : Result := .next (s.respond (.status st))

/-- An undefined `cmd_op` (60_exceptions.md R220). -/
def undefinedCommand (s : State) : Result := refuse .eCmd s

/-! The outbound side. -/

/-- `COMPOSE(group, payload, cs)` (40_frame_composer.md R111), which every named operation performs
(30_encoding.md R101). -/
def compose (group : Byte) (payload : List Byte) (cs : Bool) (s : State) : Result :=
  if cs = true ∧ payload = [] then refuse .eEmptyCs s
  else if s.cfg.outbufSize.toNat < frameLength payload cs then refuse .eOverflow s
  else .next (((s.storeFrame (frameBytes group payload cs)).raiseReady).respond (.status .ok))

/-- The pull (40_frame_composer.md R112). -/
def pullFrame (s : State) : Result :=
  if s.txReady then
    match readTxBytes s 0 s.txLen.toNat with
    | .error f => .fault f
    | .ok data => .next (s.clearReady.respond (.pull .ok true s.txLen data))
  else .next (s.respond (.pull .ok false 0 []))

/-! The inbound side: what each class of frame does (30_encoding.md R95). -/

/-- The response of PROCESS. -/
def reply (st : Status) (ev : EventTag) (s : State) : Result := .next (s.respond (.process st ev))

/-- A decoded event: status OK and its tag. -/
def event (ev : EventTag) (s : State) : Result := reply .ok ev s

/-- A buffer too short for its class (42_frame_decoder.md R158). -/
def truncatedFrame (s : State) : Result := reply .rxTrunc .noEvent s

/-- The status reply (42_frame_decoder.md R154). -/
def statusReply (key : Byte) (s : State) : Result :=
  if key = 0x00 then event .trackOff s
  else if key = 0x01 then event .trackOn s
  else if key = 0x02 then event .progMode s
  else if key = 0x13 then event .cvNack s
  else event .unknown s

/-- The track-power reply (42_frame_decoder.md R155). -/
def powerReply (key : Byte) (s : State) : Result :=
  if key = 0x00 then event .trackOn s
  else if key = 0x20 then event .progMode s
  else event .trackOff s

/-- The CV programming result (42_frame_decoder.md R156). -/
def cvResultReply (wireNum : BitVec 16) (val : Byte) (s : State) : Result :=
  event .cvResult (s.setCv { num := cvFromWire wireNum, val := val })

/-- The locomotive information (43_loco_info_decode.md R180). Where R182 draws the speed it is a free value. -/
def locoInfoReply (wireAddr : BitVec 16) (mode : BitVec 3) (occ : Bool) (code : BitVec 7) (dir light : Bool)
    (func : BitVec 28) (s : State) : Result :=
  let steps := (unpackSpeed s.cfg mode code).1
  let cache (speed : BitVec 7) : LocoCache :=
    { addr := fromWire wireAddr, speed := speed, steps := steps, dir := dir, light := light, func := func,
      occ := occ }
  match (unpackSpeed s.cfg mode code).2 with
  | some speed => event .locoInfo (s.setLoco (cache speed))
  | none => event .locoInfo ((s.setLoco (cache (Config.drawSpeed s.draws))).nextDraw)

/-- Any other sub-opcode of group 0x40 (42_frame_decoder.md R157). -/
def xbusOtherReply (s : State) : Result := event .unknown s

/-- A group other than 0x40: acknowledged where it is recognised, a failure where it is not
(42_frame_decoder.md R151, R152; 30_encoding.md R97 G2 to G4). -/
def groupReply (group : Byte) (s : State) : Result :=
  if group ∈ s.cfg.recognised then reply .ok .noEvent s else reply .rxFail .noEvent s

/-! What a step takes from the host. -/

/-- No command: the block does not act on its own (00_scope.md R6), and there is no response. -/
def idle (s : State) : State := s.take []

/-- Reset (70_reset_and_hazards.md R240, 10_state.md R42): the registers at their reset values, each unspecified
one a free value of its own, the constant tables unchanged, no response. -/
def assertReset (s : State) (rest : List Stimulus) : State :=
  { (s.take rest).nextDraw with
    txbuf := []
    txLen := 0
    txReady := false
    loco := LocoCache.unspecified s.draws
    cv := CvCache.unspecified s.draws
    lib := LibCache.unspecified s.draws }

/-- The state in which a command executes: the command is off the host's list, and the number that its undriven
bytes have is used up. -/
def takeCommand (s : State) (rest : List Stimulus) : State := (s.take rest).nextDraw

/-- What the command port reads as: the bytes the host does not drive are free values
(70_reset_and_hazards.md R257, log 10). -/
def readPort (s : State) (p : Port) : Except DecodeError Instr := decode (Config.undrivenByte s.draws) p

end Sys2Proof.Machine
end

