-- ==== Sys2Proof/Machine/Accessors.lean ====
section
/-! DEFINITION. The state accessors and the ready poll (44_accessors.md): they read and change nothing. -/

namespace Sys2Proof.Machine

/-- RD_LOCO (44_accessors.md R200). -/
def execRdLoco (s : State) : Result := .next (s.respond (.loco .ok s.loco))

/-- RD_CV (R201). -/
def execRdCv (s : State) : Result := .next (s.respond (.cv .ok s.cv))

/-- RD_LIB (R202). -/
def execRdLib (s : State) : Result := .next (s.respond (.lib .ok s.lib))

/-- RD_READY (R203): the flag is not consumed. -/
def execRdReady (s : State) : Result := .next (s.respond (.ready .ok s.txReady))

end Sys2Proof.Machine
end

