-- ==== Sys2Proof/Machine/Composer.lean ====
section
/-! DEFINITION. COMPOSE and PULL (40_frame_composer.md). -/

namespace Sys2Proof.Machine

/-- COMPOSE (40_frame_composer.md R111). -/
def execCompose (group : Byte) (payload : List Byte) (cs : Bool) (s : State) : Result := compose group payload cs s

/-- PULL (40_frame_composer.md R112). -/
def execPull (s : State) : Result := pullFrame s

end Sys2Proof.Machine
end

