-- ==== Sys2Proof/Machine/Receive.lean ====
section
/-! DEFINITION. PROCESS (42_frame_decoder.md R150) and the rows of inbound frames it decodes to (R151 to R157,
43_loco_info_decode.md R180). -/

namespace Sys2Proof.Machine

/-- PROCESS over a whole buffer, written from the pseudocode of 42_frame_decoder.md R150 with the class lengths of
R158. On a buffer long enough for its class it does what the row does that the decoder resolves the buffer to. -/
def execProcess (rx : List Byte) (s : State) : Result :=
  if rx.length < 3 then truncatedFrame s
  else if byteAt rx 2 = 0x40 then
    if rx.length < 5 then truncatedFrame s
    else if byteAt rx 4 = 0x61 then
      if rx.length < 6 then truncatedFrame s else statusReply (byteAt rx 5) s
    else if byteAt rx 4 = 0x62 then
      if rx.length < 7 then truncatedFrame s else powerReply (byteAt rx 6) s
    else if byteAt rx 4 = 0x64 then
      if rx.length < 9 then truncatedFrame s
      else cvResultReply (be16 (byteAt rx 6) (byteAt rx 7)) (byteAt rx 8) s
    else if byteAt rx 4 = 0xEF then
      if rx.length < 13 then truncatedFrame s
      else
        locoInfoReply (be16 (byteAt rx 5) (byteAt rx 6))
          ((byteAt rx 7).extractLsb' 0 3) ((byteAt rx 7).getLsbD 3)
          ((byteAt rx 8).extractLsb' 0 7) ((byteAt rx 8).getLsbD 7)
          ((byteAt rx 9).getLsbD 4)
          (byteAt rx 12 ++ byteAt rx 11 ++ byteAt rx 10 ++ (byteAt rx 9).extractLsb' 0 4) s
    else xbusOtherReply s
  else groupReply (byteAt rx 2) s

/-- RX_STATUS_TRACK_OFF (42_frame_decoder.md R154). -/
def execRxStatusTrackOff (s : State) : Result := event .trackOff s

/-- RX_STATUS_TRACK_ON (R154). -/
def execRxStatusTrackOn (s : State) : Result := event .trackOn s

/-- RX_STATUS_PROG_MODE (R154). -/
def execRxStatusProgMode (s : State) : Result := event .progMode s

/-- RX_STATUS_CV_NACK (R154): `cv.*` keeps the last result. -/
def execRxStatusCvNack (s : State) : Result := event .cvNack s

/-- RX_STATUS_OTHER (R154). -/
def execRxStatusOther (key : Byte) (s : State) : Result := statusReply key s

/-- RX_POWER_TRACK_ON (42_frame_decoder.md R155). -/
def execRxPowerTrackOn (s : State) : Result := event .trackOn s

/-- RX_POWER_PROG_MODE (R155). -/
def execRxPowerProgMode (s : State) : Result := event .progMode s

/-- RX_POWER_OTHER (R155), the coarse catch-all. -/
def execRxPowerOther (key : Byte) (s : State) : Result := powerReply key s

/-- RX_CV_RESULT (42_frame_decoder.md R156). -/
def execRxCvResult (wireNum : BitVec 16) (val : Byte) (s : State) : Result := cvResultReply wireNum val s

/-- RX_LOCO_INFO (43_loco_info_decode.md R180). -/
def execRxLocoInfo (wireAddr : BitVec 16) (mode : BitVec 3) (occ : Bool) (code : BitVec 7) (dir : Bool)
    (light : Bool) (func : BitVec 28) (s : State) : Result :=
  locoInfoReply wireAddr mode occ code dir light func s

/-- RX_XBUS_OTHER (42_frame_decoder.md R157). -/
def execRxXbusOther (_sub : Byte) (s : State) : Result := xbusOtherReply s

/-- RX_GROUP_ACK_10 (42_frame_decoder.md R151). -/
def execRxGroupAck10 (s : State) : Result := groupReply 0x10 s

/-- RX_GROUP_ACK_1A (42_frame_decoder.md R151). -/
def execRxGroupAck1A (s : State) : Result := groupReply 0x1A s

/-- RX_GROUP_ACK_30 (42_frame_decoder.md R151). -/
def execRxGroupAck30 (s : State) : Result := groupReply 0x30 s

/-- RX_GROUP_ACK_50 (42_frame_decoder.md R151). -/
def execRxGroupAck50 (s : State) : Result := groupReply 0x50 s

/-- RX_GROUP_ACK_51 (42_frame_decoder.md R151). -/
def execRxGroupAck51 (s : State) : Result := groupReply 0x51 s

/-- RX_GROUP_ACK_60 (42_frame_decoder.md R151). -/
def execRxGroupAck60 (s : State) : Result := groupReply 0x60 s

/-- RX_GROUP_ACK_61 (42_frame_decoder.md R151). -/
def execRxGroupAck61 (s : State) : Result := groupReply 0x61 s

/-- RX_GROUP_ACK_70 (42_frame_decoder.md R151). -/
def execRxGroupAck70 (s : State) : Result := groupReply 0x70 s

/-- RX_GROUP_ACK_71 (42_frame_decoder.md R151). -/
def execRxGroupAck71 (s : State) : Result := groupReply 0x71 s

/-- RX_GROUP_ACK_80 (42_frame_decoder.md R151). -/
def execRxGroupAck80 (s : State) : Result := groupReply 0x80 s

/-- RX_GROUP_ACK_81 (42_frame_decoder.md R151). -/
def execRxGroupAck81 (s : State) : Result := groupReply 0x81 s

/-- RX_GROUP_ACK_82 (42_frame_decoder.md R151). -/
def execRxGroupAck82 (s : State) : Result := groupReply 0x82 s

/-- RX_GROUP_ACK_84 (42_frame_decoder.md R151). -/
def execRxGroupAck84 (s : State) : Result := groupReply 0x84 s

/-- RX_GROUP_ACK_85 (42_frame_decoder.md R151). -/
def execRxGroupAck85 (s : State) : Result := groupReply 0x85 s

/-- RX_GROUP_ACK_88 (42_frame_decoder.md R151). -/
def execRxGroupAck88 (s : State) : Result := groupReply 0x88 s

/-- RX_GROUP_ACK_89 (42_frame_decoder.md R151). -/
def execRxGroupAck89 (s : State) : Result := groupReply 0x89 s

/-- RX_GROUP_ACK_A0 (42_frame_decoder.md R151). -/
def execRxGroupAckA0 (s : State) : Result := groupReply 0xA0 s

/-- RX_GROUP_ACK_A1 (42_frame_decoder.md R151). -/
def execRxGroupAckA1 (s : State) : Result := groupReply 0xA1 s

/-- RX_GROUP_ACK_A2 (42_frame_decoder.md R151). -/
def execRxGroupAckA2 (s : State) : Result := groupReply 0xA2 s

/-- RX_GROUP_ACK_A3 (42_frame_decoder.md R151). -/
def execRxGroupAckA3 (s : State) : Result := groupReply 0xA3 s

/-- RX_GROUP_ACK_A4 (42_frame_decoder.md R151). -/
def execRxGroupAckA4 (s : State) : Result := groupReply 0xA4 s

/-- RX_GROUP_UNREC (42_frame_decoder.md R152). -/
def execRxGroupUnrec (group : Byte) (s : State) : Result := groupReply group s

end Sys2Proof.Machine
end

