-- ==== Sys2Proof/Machine/Requests.lean ====
section
/-! DEFINITION. The eleven named compose operations (41_compose_operations.md, 30_encoding.md R92). -/

namespace Sys2Proof.Machine

/-- GET_STATUS (41_compose_operations.md R130). -/
def execGetStatus (s : State) : Result := compose 0x40 [0x21, 0x24] true s

/-- TRACK_OFF (R131). -/
def execTrackOff (s : State) : Result := compose 0x40 [0x21, 0x80] true s

/-- TRACK_ON (R132). -/
def execTrackOn (s : State) : Result := compose 0x40 [0x21, 0x81] true s

/-- GET_FW_VERSION (R133). -/
def execGetFwVersion (s : State) : Result := compose 0x40 [0xF1, 0x0A] true s

/-- SET_BCAST (R134): the flag word little-endian, no checksum. -/
def execSetBcast (flags : BitVec 32) (s : State) : Result :=
  compose 0x50 [flags.extractLsb' 0 8, flags.extractLsb' 8 8, flags.extractLsb' 16 8, flags.extractLsb' 24 8] false s

/-- GET_LOCO_INFO (R135). -/
def execGetLocoInfo (addr : BitVec 14) (s : State) : Result :=
  compose 0x40 [0xE3, 0xF0, hiByte (toWire addr), loByte (toWire addr)] true s

/-- SET_LOCO_DRIVE (R136): the mode is looked at before the speed (60_exceptions.md R222). -/
def execSetLocoDrive (addr : BitVec 14) (steps : StepMode) (speed : BitVec 7) (dir : Bool) (s : State) : Result :=
  match stepOpcode steps with
  | none => refuse .eSteps s
  | some op =>
    match packSpeed s.cfg steps speed with
    | .error st => refuse st s
    | .ok v => compose 0x40 [0xE4, op, hiByte (toWire addr), loByte (toWire addr), speedByte dir v] true s

/-- SET_LOCO_FUNC (R137). -/
def execSetLocoFunc (addr : BitVec 14) (fn : BitVec 6) (mode : FuncMode) (s : State) : Result :=
  match funcByte mode fn with
  | none => refuse .eOperand s
  | some fb => compose 0x40 [0xE4, 0xF8, hiByte (toWire addr), loByte (toWire addr), fb] true s

/-- SET_TURNOUT (R138): the address is raw. -/
def execSetTurnout (taddr : BitVec 16) (tdir : TurnoutDir) (s : State) : Result :=
  match turnoutByte tdir with
  | none => refuse .eOperand s
  | some dc => compose 0x40 [0x53, hiByte taddr, loByte taddr, dc] true s

/-- CV_READ (R139). -/
def execCvRead (cv : BitVec 16) (s : State) : Result :=
  compose 0x40 [0x23, 0x11, hiByte (cvToWire cv), loByte (cvToWire cv)] true s

/-- CV_WRITE (R140). -/
def execCvWrite (cv : BitVec 16) (val : Byte) (s : State) : Result :=
  compose 0x40 [0x24, 0x12, hiByte (cvToWire cv), loByte (cvToWire cv), val] true s

end Sys2Proof.Machine
end

