-- ==== Sys2Proof/Machine/Dispatch.lean ====
section
/-! DEFINITION. One arm per instruction, each a direct call of its meaning. -/

namespace Sys2Proof.Machine

/-- What an instruction does. -/
def exec (i : Instr) (s : State) : Host.Outcome State Fault Refusal :=
  match i with
  | .compose group payload cs => Sys2Proof.Machine.execCompose group payload cs s
  | .getStatus => Sys2Proof.Machine.execGetStatus s
  | .trackOff => Sys2Proof.Machine.execTrackOff s
  | .trackOn => Sys2Proof.Machine.execTrackOn s
  | .getFwVersion => Sys2Proof.Machine.execGetFwVersion s
  | .setBcast flags => Sys2Proof.Machine.execSetBcast flags s
  | .getLocoInfo addr => Sys2Proof.Machine.execGetLocoInfo addr s
  | .setLocoDrive addr steps speed dir => Sys2Proof.Machine.execSetLocoDrive addr steps speed dir s
  | .setLocoFunc addr fn mode => Sys2Proof.Machine.execSetLocoFunc addr fn mode s
  | .setTurnout taddr tdir => Sys2Proof.Machine.execSetTurnout taddr tdir s
  | .cvRead cv => Sys2Proof.Machine.execCvRead cv s
  | .cvWrite cv val => Sys2Proof.Machine.execCvWrite cv val s
  | .pull => Sys2Proof.Machine.execPull s
  | .process rx => Sys2Proof.Machine.execProcess rx s
  | .rdLoco => Sys2Proof.Machine.execRdLoco s
  | .rdCv => Sys2Proof.Machine.execRdCv s
  | .rdLib => Sys2Proof.Machine.execRdLib s
  | .rdReady => Sys2Proof.Machine.execRdReady s
  | .rxStatusTrackOff => Sys2Proof.Machine.execRxStatusTrackOff s
  | .rxStatusTrackOn => Sys2Proof.Machine.execRxStatusTrackOn s
  | .rxStatusProgMode => Sys2Proof.Machine.execRxStatusProgMode s
  | .rxStatusCvNack => Sys2Proof.Machine.execRxStatusCvNack s
  | .rxStatusOther key => Sys2Proof.Machine.execRxStatusOther key s
  | .rxPowerTrackOn => Sys2Proof.Machine.execRxPowerTrackOn s
  | .rxPowerProgMode => Sys2Proof.Machine.execRxPowerProgMode s
  | .rxPowerOther key => Sys2Proof.Machine.execRxPowerOther key s
  | .rxCvResult wireNum val => Sys2Proof.Machine.execRxCvResult wireNum val s
  | .rxLocoInfo wireAddr mode occ code dir light func => Sys2Proof.Machine.execRxLocoInfo wireAddr mode occ code dir light func s
  | .rxXbusOther sub => Sys2Proof.Machine.execRxXbusOther sub s
  | .rxGroupAck10 => Sys2Proof.Machine.execRxGroupAck10 s
  | .rxGroupAck1A => Sys2Proof.Machine.execRxGroupAck1A s
  | .rxGroupAck30 => Sys2Proof.Machine.execRxGroupAck30 s
  | .rxGroupAck50 => Sys2Proof.Machine.execRxGroupAck50 s
  | .rxGroupAck51 => Sys2Proof.Machine.execRxGroupAck51 s
  | .rxGroupAck60 => Sys2Proof.Machine.execRxGroupAck60 s
  | .rxGroupAck61 => Sys2Proof.Machine.execRxGroupAck61 s
  | .rxGroupAck70 => Sys2Proof.Machine.execRxGroupAck70 s
  | .rxGroupAck71 => Sys2Proof.Machine.execRxGroupAck71 s
  | .rxGroupAck80 => Sys2Proof.Machine.execRxGroupAck80 s
  | .rxGroupAck81 => Sys2Proof.Machine.execRxGroupAck81 s
  | .rxGroupAck82 => Sys2Proof.Machine.execRxGroupAck82 s
  | .rxGroupAck84 => Sys2Proof.Machine.execRxGroupAck84 s
  | .rxGroupAck85 => Sys2Proof.Machine.execRxGroupAck85 s
  | .rxGroupAck88 => Sys2Proof.Machine.execRxGroupAck88 s
  | .rxGroupAck89 => Sys2Proof.Machine.execRxGroupAck89 s
  | .rxGroupAckA0 => Sys2Proof.Machine.execRxGroupAckA0 s
  | .rxGroupAckA1 => Sys2Proof.Machine.execRxGroupAckA1 s
  | .rxGroupAckA2 => Sys2Proof.Machine.execRxGroupAckA2 s
  | .rxGroupAckA3 => Sys2Proof.Machine.execRxGroupAckA3 s
  | .rxGroupAckA4 => Sys2Proof.Machine.execRxGroupAckA4 s
  | .rxGroupUnrec group => Sys2Proof.Machine.execRxGroupUnrec group s

end Sys2Proof.Machine
end

