-- ==== Sys2Proof/Machine/Step.lean ====
section
/-! DEFINITION. One step of the machine: what the host does next, done (00_scope.md R6), and the host's command
that a word of the opcode table stands for. -/

namespace Sys2Proof.Machine

/-- A step: nothing where the host issues nothing, a reset (70_reset_and_hazards.md R240), or the complete
execution of one host command (00_scope.md R6). -/
def step (s : State) : Host.Outcome State Fault Refusal :=
  match s.inbox with
  | [] => .next (idle s)
  | .reset :: rest => .next (assertReset s rest)
  | .command p :: rest =>
    match readPort s p with
    | .ok i => exec i (takeCommand s rest)
    | .error .undefinedCommand => undefinedCommand (takeCommand s rest)

/-- The host issues, as its next command, the one that the table's number `w` of `nbits` bits stands for (logs 1
and 12). -/
def State.withFetchWord (s : State) (nbits w : Nat) : State :=
  { s with inbox := .command (portOfWord nbits w) :: s.inbox }

end Sys2Proof.Machine
end

