-- ==== Sys2Proof/Safety.lean ====
section
/-! DEFINITION. What a claim about the block may lean on and what it promises: the invariant of every run
(40_frame_composer.md R113, R114; 10_state.md R22), and the words statements use for "this frame is in the buffer"
and "nothing else changed". -/

namespace Sys2Proof.Machine

/-- `TXBUF[0..tx_len-1]` is a whole frame (10_state.md R22, 40_frame_composer.md R114): its length in range, byte 0
the length, bytes 1 and 3 zero, every byte written. -/
structure State.FrameStored (s : State) : Prop where
  atLeastHeader : 4 ≤ s.txLen.toNat
  fits : s.txLen.toNat ≤ s.cfg.outbufSize.toNat
  lengthByte : Memory.read s.txbuf 0 = some s.txLen
  reserved1 : Memory.read s.txbuf 1 = some 0x00
  reserved3 : Memory.read s.txbuf 3 = some 0x00
  written : ∀ i, i < s.txLen.toNat → (Memory.read s.txbuf i).isSome

/-- The invariant of every run: an admissible configuration, `TXBUF` in its canonical form and inside
`OUTBUF_SIZE`, and either nothing composed since reset or a whole frame in the buffer. -/
structure State.Inv (s : State) : Prop where
  cfgOk : s.cfg.Ok
  canonical : Memory.wf s.txbuf
  inRange : ∀ c ∈ s.txbuf, c.1 < s.cfg.outbufSize.toNat
  outbound : (s.txbuf = [] ∧ s.txLen = 0 ∧ s.txReady = false) ∨ s.FrameStored

/-- The cache registers are the same (10_state.md R35). -/
structure SameCaches (s t : State) : Prop where
  loco : t.loco = s.loco
  cv : t.cv = s.cv
  lib : t.lib = s.lib

/-- The outbound registers are the same, `TXBUF` byte by byte (10_state.md R35). -/
structure SameOutbound (s t : State) : Prop where
  bytes : ∀ i, Memory.read t.txbuf i = Memory.read s.txbuf i
  len : t.txLen = s.txLen
  ready : t.txReady = s.txReady

/-- What no instruction writes: the constant tables and parameters, and the host's list. -/
structure SameSurround (s t : State) : Prop where
  cfg : t.cfg = s.cfg
  inbox : t.inbox = s.inbox

/-- `t` is `s` after a successful compose of the frame `f` (40_frame_composer.md R111): the frame in `TXBUF` from
index 0, its length in `tx_len`, the ready flag set, status OK, and nothing else changed. -/
structure Composed (s t : State) (f : List Byte) : Prop where
  bytes : ∀ i, i < f.length → Memory.read t.txbuf i = f[i]?
  above : ∀ i, f.length ≤ i → Memory.read t.txbuf i = Memory.read s.txbuf i
  len : t.txLen.toNat = f.length
  ready : t.txReady = true
  answer : t.response = some (.status .ok)
  caches : SameCaches s t
  surround : SameSurround s t
  draws : t.draws = s.draws

/-- The twelve commands that build a frame: COMPOSE and the named operations (70_reset_and_hazards.md R250). -/
def composes : Instr → Bool
  | .compose _ _ _ | .getStatus | .trackOff | .trackOn | .getFwVersion | .setBcast _ | .getLocoInfo _
  | .setLocoDrive _ _ _ _ | .setLocoFunc _ _ _ | .setTurnout _ _ | .cvRead _ | .cvWrite _ _ => true
  | .pull | .process _ | .rdLoco | .rdCv | .rdLib | .rdReady | .rxStatusTrackOff | .rxStatusTrackOn
  | .rxStatusProgMode | .rxStatusCvNack | .rxStatusOther _ | .rxPowerTrackOn | .rxPowerProgMode
  | .rxPowerOther _ | .rxCvResult _ _ | .rxLocoInfo _ _ _ _ _ _ _ | .rxXbusOther _ | .rxGroupAck10
  | .rxGroupAck1A | .rxGroupAck30 | .rxGroupAck50 | .rxGroupAck51 | .rxGroupAck60 | .rxGroupAck61
  | .rxGroupAck70 | .rxGroupAck71 | .rxGroupAck80 | .rxGroupAck81 | .rxGroupAck82 | .rxGroupAck84
  | .rxGroupAck85 | .rxGroupAck88 | .rxGroupAck89 | .rxGroupAckA0 | .rxGroupAckA1 | .rxGroupAckA2
  | .rxGroupAckA3 | .rxGroupAckA4 | .rxGroupUnrec _ => false

/-- The commands that are no part of the inbound side: the composers, PULL and the accessors. -/
def hostSide : Instr → Bool
  | .compose _ _ _ | .getStatus | .trackOff | .trackOn | .getFwVersion | .setBcast _ | .getLocoInfo _
  | .setLocoDrive _ _ _ _ | .setLocoFunc _ _ _ | .setTurnout _ _ | .cvRead _ | .cvWrite _ _ | .pull => true
  | .process _ => false
  | .rdLoco | .rdCv | .rdLib | .rdReady => true
  | .rxStatusTrackOff | .rxStatusTrackOn | .rxStatusProgMode | .rxStatusCvNack | .rxStatusOther _
  | .rxPowerTrackOn | .rxPowerProgMode | .rxPowerOther _ | .rxCvResult _ _ | .rxLocoInfo _ _ _ _ _ _ _
  | .rxXbusOther _ | .rxGroupAck10 | .rxGroupAck1A | .rxGroupAck30 | .rxGroupAck50 | .rxGroupAck51
  | .rxGroupAck60 | .rxGroupAck61 | .rxGroupAck70 | .rxGroupAck71 | .rxGroupAck80 | .rxGroupAck81
  | .rxGroupAck82 | .rxGroupAck84 | .rxGroupAck85 | .rxGroupAck88 | .rxGroupAck89 | .rxGroupAckA0
  | .rxGroupAckA1 | .rxGroupAckA2 | .rxGroupAckA3 | .rxGroupAckA4 | .rxGroupUnrec _ => false

/-- The statuses that a command can return (60_exceptions.md R211); the rows of inbound frames are PROCESS. -/
def statuses : Instr → List Status
  | .compose _ _ _ => [.ok, .eEmptyCs, .eOverflow]
  | .getStatus | .trackOff | .trackOn | .getFwVersion | .setBcast _ | .getLocoInfo _ => [.ok]
  | .setLocoDrive _ _ _ _ => [.ok, .eSteps, .eSpeed]
  | .setLocoFunc _ _ _ | .setTurnout _ _ => [.ok, .eOperand]
  | .cvRead _ | .cvWrite _ _ | .pull => [.ok]
  | .process _ => [.ok, .rxFail, .rxTrunc]
  | .rdLoco | .rdCv | .rdLib | .rdReady => [.ok]
  | .rxStatusTrackOff | .rxStatusTrackOn | .rxStatusProgMode | .rxStatusCvNack | .rxStatusOther _
  | .rxPowerTrackOn | .rxPowerProgMode | .rxPowerOther _ | .rxCvResult _ _ | .rxLocoInfo _ _ _ _ _ _ _
  | .rxXbusOther _ | .rxGroupAck10 | .rxGroupAck1A | .rxGroupAck30 | .rxGroupAck50 | .rxGroupAck51
  | .rxGroupAck60 | .rxGroupAck61 | .rxGroupAck70 | .rxGroupAck71 | .rxGroupAck80 | .rxGroupAck81
  | .rxGroupAck82 | .rxGroupAck84 | .rxGroupAck85 | .rxGroupAck88 | .rxGroupAck89 | .rxGroupAckA0
  | .rxGroupAckA1 | .rxGroupAckA2 | .rxGroupAckA3 | .rxGroupAckA4 | .rxGroupUnrec _ => [.ok, .rxFail, .rxTrunc]

/-- A state is safe when no run from it, however long, faults or is refused. -/
def State.Safe (s : State) : Prop := ∀ n, ∃ t, Sys2Proof.core.run n s = .next t

end Sys2Proof.Machine
end

