-- ==== Sys2Proof/Certificates/Slice0/Obligations.lean ====
section
/-! DEFINITION. The statements for the provers. A statement about an instruction also says how the command port
encodes it, where its rule does; `exec … = .next { s with … }` says the whole next state, so its frame too. D<n> is a
decision that the spec marks as its own (92_eei_decisions.md); the model follows it (log 15). -/

open Sys2Proof Sys2Proof.Machine

/-! ## Steps, the port, decoding -/

/-- 00_scope.md R6, R63 (logs 1, 2, 8): a command on the port is taken, and the step is what its decoded instruction
does. -/
def Obligations.StepRunsDecodedCommand : Prop :=
  ∀ (s : State) (p : Port) (rest : List Stimulus) (i : Instr),
    s.inbox = .command p :: rest → decode (Config.undrivenByte s.draws) p = .ok i →
    step s = exec i { s with inbox := rest, response := none, draws := s.draws + 1 }

/-- 60_exceptions.md R220 (decisions D2, D30). -/
def Obligations.UndefinedCommandAnswersECmd : Prop :=
  ∀ (s : State) (p : Port) (rest : List Stimulus),
    s.inbox = .command p :: rest → (p.cmdOp = 0 ∨ 0x13 ≤ p.cmdOp.toNat) →
    step s = .next { s with inbox := rest, draws := s.draws + 1, response := some (.status .eCmd) }

/-- 00_scope.md R6: "between commands its state does not change" (an empty list of host actions is log 1). -/
def Obligations.NoCommandChangesNothing : Prop :=
  ∀ s : State, s.inbox = [] → step s = .next { s with response := none }

/-- 70_reset_and_hazards.md R240 (decision D27): reset is a step of its own; what it leaves unspecified is not
constrained here. -/
def Obligations.ResetStepClearsPending : Prop :=
  ∀ (s : State) (rest : List Stimulus), s.inbox = .reset :: rest →
    ∃ t, step s = .next t ∧ t.txReady = false ∧ t.txLen = 0 ∧ t.cfg = s.cfg ∧ t.inbox = rest ∧ t.response = none ∧
      exec .pull t = .next { t with response := some (.pull .ok false 0 []) }

/-- 10_state.md R42: the reset values that the spec gives (`tx_len = 0` is decision D27, the tables D17; logs 3, 4,
5). -/
def Obligations.ResetValues : Prop :=
  State.reset.txReady = false ∧ State.reset.txLen = 0 ∧ State.reset.cfg.Ok ∧
  exec .pull State.reset = .next { State.reset with response := some (.pull .ok false 0 []) } ∧
  exec .rdReady State.reset = .next { State.reset with response := some (.ready .ok false) }

/-- 30_encoding.md R90, R91, R98 (the codes are decisions D2, D16): no operand bit is dropped, whatever undriven
bytes hold. The encoder drives 0 on what a command does not list (log 18). -/
def Obligations.DecodeOfEncode : Prop :=
  ∀ i : Instr, i.wellFormed → ∀ fill : Nat → Byte, decode fill (encode i) = .ok i

/-- What the decoder answers is well formed, on every port. -/
def Obligations.DecodedIsWellFormed : Prop :=
  ∀ (fill : Nat → Byte) (p : Port) (i : Instr), decode fill p = .ok i → i.wellFormed

/-- Words of the opcode table, numbered as it numbers them (30_encoding.md R90, R100; the zero fill is log 12). -/
def Obligations.TableWordsDecode : Prop :=
  decodeTableWord 8 0x02 = some .getStatus ∧
  decodeTableWord 8 0x01 = some (.compose 0 [] false) ∧
  decodeTableWord 8 0x0D = some .pull ∧
  decodeTableWord 8 0x0E = some (.process []) ∧
  decodeTableWord 8 0x12 = some .rdReady ∧
  decodeTableWord 8 0x13 = none ∧
  decodeTableWord 56 0x00004000611300 = some .rxStatusCvNack ∧
  decodeTableWord 56 0x00004000620020 = some .rxPowerProgMode ∧
  decodeTableWord 56 0x00004000640000 = some (.rxCvResult 0 0) ∧
  decodeTableWord 56 0x00004000EF0000 = some (.rxLocoInfo 0 0 false 0 false false 0) ∧
  decodeTableWord 56 0x0000A400000000 = some .rxGroupAckA4 ∧
  decodeTableWord 56 0x00000000000000 = some (.rxGroupUnrec 0)

/-- 30_encoding.md R91: "Operands a command does not list are ignored." (decision D35). Two ports with the same
`cmd_op` that agree on the ports its command lists decode alike. -/
def Obligations.UnlistedPortsIgnored : Prop :=
  ∀ (fill : Nat → Byte) (p q : Port), q.cmdOp = p.cmdOp →
    (p.cmdOp = 0x01 → q.aGroup = p.aGroup ∧ q.aN = p.aN ∧ q.aPayload = p.aPayload ∧ q.aCs = p.aCs) →
    (p.cmdOp = 0x06 → q.aFlags = p.aFlags) →
    (p.cmdOp = 0x07 → q.aAddr = p.aAddr) →
    (p.cmdOp = 0x08 → q.aAddr = p.aAddr ∧ q.aSteps = p.aSteps ∧ q.aSpeed = p.aSpeed ∧ q.aDir = p.aDir) →
    (p.cmdOp = 0x09 → q.aAddr = p.aAddr ∧ q.aFn = p.aFn ∧ q.aMode = p.aMode) →
    (p.cmdOp = 0x0A → q.aTaddr = p.aTaddr ∧ q.aTdir = p.aTdir) →
    (p.cmdOp = 0x0B → q.aCv = p.aCv) →
    (p.cmdOp = 0x0C → q.aCv = p.aCv ∧ q.aVal = p.aVal) →
    (p.cmdOp = 0x0E → q.rx = p.rx ∧ q.rxLen = p.rxLen) →
    decode fill q = decode fill p

/-- 70_reset_and_hazards.md R257 (decision D32, log 10): `rx_len` is believed. Bytes beyond it are not seen; bytes
the host did not drive read as whatever lies there. -/
def Obligations.RxLenIsBelieved : Prop :=
  ∀ (fill : Nat → Byte) (p : Port), p.cmdOp = 0x0E →
    ∃ rx : List Byte, decode fill p = .ok (decodeProcess rx) ∧ rx.length = p.rxLen.toNat ∧
      (∀ i, i < p.rxLen.toNat → i < p.rx.length → rx[i]? = p.rx[i]?) ∧
      (∀ i, i < p.rxLen.toNat → p.rx.length ≤ i → rx[i]? = some (fill i))

/-! ## Composing and pulling -/

/-- The frame of format TX of 30_encoding.md R70, byte by byte, with and without the XOR byte; what COMPOSE writes
beside it is 40_frame_composer.md R111. The code 0x01 is decision D2, the accepted empty payload without checksum
decision D8 (log 15). -/
def Obligations.ComposeBuildsFrame : Prop :=
  (∀ (fill : Nat → Byte) (p : Port), p.cmdOp = 0x01 → p.aN.toNat ≤ p.aPayload.length →
    decode fill p = .ok (.compose p.aGroup (p.aPayload.take p.aN.toNat) p.aCs)) ∧
  (∀ (group : Byte) (payload : List Byte) (s : State), 4 + payload.length ≤ s.cfg.outbufSize.toNat →
    ∃ t, exec (.compose group payload false) s = .next t ∧
      Composed s t ([BitVec.ofNat 8 (4 + payload.length), 0x00, group, 0x00] ++ payload)) ∧
  (∀ (group b : Byte) (bs : List Byte) (s : State), 4 + (bs.length + 1) + 1 ≤ s.cfg.outbufSize.toNat →
    ∃ t, exec (.compose group (b :: bs) true) s = .next t ∧
      Composed s t ([BitVec.ofNat 8 (4 + (bs.length + 1) + 1), 0x00, group, 0x00] ++ (b :: bs) ++
        [(b :: bs).foldl (· ^^^ ·) 0]))

/-- 40_frame_composer.md R111, 60_exceptions.md R215, R216 (decisions D7, D8, D28): the two refusals of COMPOSE,
exactly where they apply. -/
def Obligations.ComposeRefusals : Prop :=
  (∀ (group : Byte) (s : State),
    exec (.compose group [] true) s = .next { s with response := some (.status .eEmptyCs) }) ∧
  (∀ (group : Byte) (payload : List Byte) (s : State), s.cfg.outbufSize.toNat < 4 + payload.length →
    exec (.compose group payload false) s = .next { s with response := some (.status .eOverflow) }) ∧
  (∀ (group b : Byte) (bs : List Byte) (s : State), s.cfg.outbufSize.toNat < 4 + (bs.length + 1) + 1 →
    exec (.compose group (b :: bs) true) s = .next { s with response := some (.status .eOverflow) }) ∧
  (∀ (group : Byte) (payload : List Byte) (cs : Bool) (s t : State), exec (.compose group payload cs) s = .next t →
    (t.response = some (.status .eEmptyCs) ↔ cs = true ∧ payload = []) ∧
    (t.response = some (.status .eOverflow) ↔
      s.cfg.outbufSize.toNat < 4 + payload.length + cs.toNat ∧ ¬ (cs = true ∧ payload = [])))

/-- 40_frame_composer.md R110: the fold over the payload, its first byte the seed; that this is the XOR of all bytes
from zero ("[derived: arithmetic]"); that no byte means a refusal (R111, 60_exceptions.md R216, decision D8, log
15); the rule's examples. -/
def Obligations.ChecksumIsXorOfPayload : Prop :=
  (∀ b : Byte, xorFold b [] = b) ∧
  (∀ (b c : Byte) (bs : List Byte), xorFold b (bs ++ [c]) = xorFold b bs ^^^ c) ∧
  (∀ (b : Byte) (bs : List Byte), xorFold b bs = (b :: bs).foldl (· ^^^ ·) 0) ∧
  (∀ (group b : Byte) (bs : List Byte) (s : State), 4 + (bs.length + 1) + 1 ≤ s.cfg.outbufSize.toNat →
    ∃ t, exec (.compose group (b :: bs) true) s = .next t ∧
      Memory.read t.txbuf (4 + (bs.length + 1)) = some (xorFold b bs)) ∧
  (∀ (group : Byte) (s : State),
    exec (.compose group [] true) s = .next { s with response := some (.status .eEmptyCs) }) ∧
  xorFold 0x21 [0x24] = 0x05 ∧ xorFold 0x7A [] = 0x7A ∧ xorFold 0xAA [0xAA] = 0x00

/-- 40_frame_composer.md R112 (the shape of the answer is decision D9): a pending frame is handed over once; without
one the answer is empty. -/
def Obligations.PullHandsOverOnce : Prop :=
  (∀ (fill : Nat → Byte) (p : Port), p.cmdOp = 0x0D → decode fill p = .ok .pull) ∧
  (∀ (s : State) (f : List Byte), s.txReady = true → s.txLen.toNat = f.length →
    f.length ≤ s.cfg.outbufSize.toNat → (∀ i, i < f.length → Memory.read s.txbuf i = f[i]?) →
    exec .pull s = .next { s with txReady := false, response := some (.pull .ok true s.txLen f) }) ∧
  (∀ s : State, s.txReady = false →
    exec .pull s = .next { s with response := some (.pull .ok false 0 []) })

/-- Model-level: where PULL stops. The premises fail in every run (`Obligations.InvariantRunsNeverStop`);
20_memory.md R55 says an index at or above `OUTBUF_SIZE` is out of range, log 7 makes reading it a fault. -/
def Obligations.PullOutOfRangeFaults : Prop :=
  ∀ s : State, s.txReady = true → s.cfg.outbufSize.toNat < s.txLen.toNat →
    (∀ i, i < s.cfg.outbufSize.toNat → (Memory.read s.txbuf i).isSome) →
    exec .pull s = .fault .txbufRange

/-- 40_frame_composer.md R113 ("[derived: from rule R111 …]"): of two composes without a pull between them only the
second is retrievable, whole, and once. The frame is the second command's own: the one it composes from every state
of that configuration, so from `s`, where the first compose never was, and whatever `TXBUF` held. -/
def Obligations.OnlySecondFrameRetrievable : Prop :=
  ∀ (i j : Instr) (s t u : State), composes i = true → composes j = true →
    exec i s = .next t → t.response = some (.status .ok) →
    exec j t = .next u → u.response = some (.status .ok) →
    ∃ f v, (∀ s' : State, s'.cfg = s.cfg → ∃ u', exec j s' = .next u' ∧ Composed s' u' f) ∧
      Composed t u f ∧ exec .pull u = .next v ∧ v.response = some (.pull .ok true u.txLen f) ∧
      exec .pull v = .next { v with response := some (.pull .ok false 0 []) }

/-- 40_frame_composer.md R114 ("[derived: from rules R111, R112 …]"), 10_state.md R23: what sets the ready flag,
what clears it, and that nothing else writes it. -/
def Obligations.ReadyFlagLife : Prop :=
  ∀ (i : Instr) (s t : State), exec i s = .next t →
    (composes i = true → t.response = some (.status .ok) → t.txReady = true) ∧
    (composes i = true → t.response ≠ some (.status .ok) → t.txReady = s.txReady) ∧
    (i = .pull → t.txReady = false) ∧
    (composes i = false → i ≠ .pull → t.txReady = s.txReady)

/-- 20_memory.md R56 ("[derived: …]"): composing the same frame twice leaves the same state as composing it once. -/
def Obligations.ComposeIdempotent : Prop :=
  ∀ (i : Instr) (s t : State), s.Inv → composes i = true → exec i s = .next t → exec i t = .next t

/-! ## The eleven named operations -/

/-- 41_compose_operations.md R130 to R133: the four constant frames. The checksum byte of TRACK_OFF, TRACK_ON and
GET_FW_VERSION is decision D10, the codes are decision D2 (log 15). -/
def Obligations.ConstantRequests : Prop :=
  (∀ (fill : Nat → Byte) (p : Port), p.cmdOp = 0x02 → decode fill p = .ok .getStatus) ∧
  (∀ (fill : Nat → Byte) (p : Port), p.cmdOp = 0x03 → decode fill p = .ok .trackOff) ∧
  (∀ (fill : Nat → Byte) (p : Port), p.cmdOp = 0x04 → decode fill p = .ok .trackOn) ∧
  (∀ (fill : Nat → Byte) (p : Port), p.cmdOp = 0x05 → decode fill p = .ok .getFwVersion) ∧
  ∀ s : State, s.cfg.Ok →
    (∃ t, exec .getStatus s = .next t ∧ Composed s t [0x07, 0x00, 0x40, 0x00, 0x21, 0x24, 0x05]) ∧
    (∃ t, exec .trackOff s = .next t ∧ Composed s t [0x07, 0x00, 0x40, 0x00, 0x21, 0x80, 0xA1]) ∧
    (∃ t, exec .trackOn s = .next t ∧ Composed s t [0x07, 0x00, 0x40, 0x00, 0x21, 0x81, 0xA0]) ∧
    (∃ t, exec .getFwVersion s = .next t ∧ Composed s t [0x07, 0x00, 0x40, 0x00, 0xF1, 0x0A, 0xFB])

/-- 41_compose_operations.md R134 (no checksum: decision D10). -/
def Obligations.SetBcastFrame : Prop :=
  (∀ (fill : Nat → Byte) (p : Port), p.cmdOp = 0x06 → decode fill p = .ok (.setBcast p.aFlags)) ∧
  ∀ (flags : BitVec 32) (s : State), s.cfg.Ok →
    ∃ t, exec (.setBcast flags) s = .next t ∧
      Composed s t [0x08, 0x00, 0x50, 0x00, BitVec.ofNat 8 flags.toNat, BitVec.ofNat 8 (flags.toNat / 2 ^ 8),
        BitVec.ofNat 8 (flags.toNat / 2 ^ 16), BitVec.ofNat 8 (flags.toNat / 2 ^ 24)]

/-- 41_compose_operations.md R135, with ToWire of 30_encoding.md R80 (the byte order is decision D11). -/
def Obligations.GetLocoInfoFrame : Prop :=
  (∀ (fill : Nat → Byte) (p : Port), p.cmdOp = 0x07 → decode fill p = .ok (.getLocoInfo p.aAddr)) ∧
  ∀ (addr : BitVec 14) (s : State), s.cfg.Ok →
    ∃ t, exec (.getLocoInfo addr) s = .next t ∧
      Composed s t [0x09, 0x00, 0x40, 0x00, 0xE3, 0xF0, hiByte (toWire addr), loByte (toWire addr),
        0xE3 ^^^ 0xF0 ^^^ hiByte (toWire addr) ^^^ loByte (toWire addr)]

/-- 41_compose_operations.md R136, with R217 and R218 of 60_exceptions.md (decisions D12, D13, D14): the three modes
and the refusals. -/
def Obligations.SetLocoDriveFrameOrRefusal : Prop :=
  (∀ (fill : Nat → Byte) (p : Port), p.cmdOp = 0x08 →
    decode fill p = .ok (.setLocoDrive p.aAddr (stepModeOfCode p.aSteps) p.aSpeed p.aDir)) ∧
  (stepModeOfCode 0 = .steps14 ∧ stepModeOfCode 1 = .steps28 ∧ stepModeOfCode 2 = .steps128 ∧
    stepModeOfCode 3 = .unknown) ∧
  (∀ (addr : BitVec 14) (speed : BitVec 7) (dir : Bool) (s : State),
    exec (.setLocoDrive addr .unknown speed dir) s = .next { s with response := some (.status .eSteps) }) ∧
  (∀ (addr : BitVec 14) (dir : Bool) (s : State),
    exec (.setLocoDrive addr .steps14 127 dir) s = .next { s with response := some (.status .eSpeed) }) ∧
  (∀ (addr : BitVec 14) (speed : BitVec 7) (dir : Bool) (s : State), 28 < speed.toNat →
    exec (.setLocoDrive addr .steps28 speed dir) s = .next { s with response := some (.status .eSpeed) }) ∧
  (∀ (addr : BitVec 14) (speed : BitVec 7) (dir : Bool) (s : State), s.cfg.Ok → speed ≠ 127 →
    ∃ (sb : Byte) (t : State), exec (.setLocoDrive addr .steps14 speed dir) s = .next t ∧
      sb.toNat = dir.toNat * 128 + (if speed.toNat = 0 then 0 else speed.toNat + 1) ∧
      Composed s t [0x0A, 0x00, 0x40, 0x00, 0xE4, 0x10, hiByte (toWire addr), loByte (toWire addr), sb,
        0xE4 ^^^ 0x10 ^^^ hiByte (toWire addr) ^^^ loByte (toWire addr) ^^^ sb]) ∧
  (∀ (addr : BitVec 14) (speed : BitVec 7) (dir : Bool) (s : State), s.cfg.Ok → (h : speed.toNat < 29) →
    ∃ (sb : Byte) (t : State), exec (.setLocoDrive addr .steps28 speed dir) s = .next t ∧
      sb.toNat = dir.toNat * 128 + (s.cfg.fwd28[speed.toNat]).toNat ∧
      Composed s t [0x0A, 0x00, 0x40, 0x00, 0xE4, 0x12, hiByte (toWire addr), loByte (toWire addr), sb,
        0xE4 ^^^ 0x12 ^^^ hiByte (toWire addr) ^^^ loByte (toWire addr) ^^^ sb]) ∧
  (∀ (addr : BitVec 14) (speed : BitVec 7) (dir : Bool) (s : State), s.cfg.Ok →
    ∃ (sb : Byte) (t : State), exec (.setLocoDrive addr .steps128 speed dir) s = .next t ∧
      sb.toNat = dir.toNat * 128 + speed.toNat ∧
      Composed s t [0x0A, 0x00, 0x40, 0x00, 0xE4, 0x13, hiByte (toWire addr), loByte (toWire addr), sb,
        0xE4 ^^^ 0x13 ^^^ hiByte (toWire addr) ^^^ loByte (toWire addr) ^^^ sb])

/-- 41_compose_operations.md R137 (decisions D15, D16): the function byte, and the code that names no mode. -/
def Obligations.SetLocoFuncFrameOrRefusal : Prop :=
  (∀ (fill : Nat → Byte) (p : Port), p.cmdOp = 0x09 →
    decode fill p = .ok (.setLocoFunc p.aAddr p.aFn (funcModeOfCode p.aMode))) ∧
  (funcModeOfCode 0 = .off ∧ funcModeOfCode 1 = .on ∧ funcModeOfCode 2 = .toggle ∧ funcModeOfCode 3 = .reserved) ∧
  (∀ (addr : BitVec 14) (fn : BitVec 6) (s : State),
    exec (.setLocoFunc addr fn .reserved) s = .next { s with response := some (.status .eOperand) }) ∧
  (∀ (addr : BitVec 14) (fn : BitVec 6) (mode : FuncMode) (s : State), s.cfg.Ok → mode ≠ .reserved →
    ∃ (fb : Byte) (t : State), exec (.setLocoFunc addr fn mode) s = .next t ∧
      fb.toNat = (match mode with | .off => 0 | .on => 1 | .toggle => 2 | .reserved => 3) * 64 + fn.toNat ∧
      Composed s t [0x0A, 0x00, 0x40, 0x00, 0xE4, 0xF8, hiByte (toWire addr), loByte (toWire addr), fb,
        0xE4 ^^^ 0xF8 ^^^ hiByte (toWire addr) ^^^ loByte (toWire addr) ^^^ fb])

/-- 41_compose_operations.md R138 (decisions D11, D16): the raw address, the three directions, and the code that
names none. -/
def Obligations.SetTurnoutFrameOrRefusal : Prop :=
  (∀ (fill : Nat → Byte) (p : Port), p.cmdOp = 0x0A →
    decode fill p = .ok (.setTurnout p.aTaddr (turnoutDirOfCode p.aTdir))) ∧
  (turnoutDirOfCode 0 = .off ∧ turnoutDirOfCode 1 = .turn ∧ turnoutDirOfCode 2 = .forward ∧
    turnoutDirOfCode 3 = .reserved) ∧
  (∀ (taddr : BitVec 16) (s : State),
    exec (.setTurnout taddr .reserved) s = .next { s with response := some (.status .eOperand) }) ∧
  (∀ (taddr : BitVec 16) (tdir : TurnoutDir) (dc : Byte) (s : State), s.cfg.Ok →
    (tdir, dc) ∈ [(TurnoutDir.off, (0x80 : Byte)), (.turn, 0x88), (.forward, 0x89)] →
    ∃ t, exec (.setTurnout taddr tdir) s = .next t ∧
      Composed s t [0x09, 0x00, 0x40, 0x00, 0x53, BitVec.ofNat 8 (taddr.toNat / 256), BitVec.ofNat 8 taddr.toNat, dc,
        0x53 ^^^ BitVec.ofNat 8 (taddr.toNat / 256) ^^^ BitVec.ofNat 8 taddr.toNat ^^^ dc])

/-- 41_compose_operations.md R139, R140 (the modulo is decision D25): the CV number less one, modulo 2^16, high byte
first. -/
def Obligations.CvFrames : Prop :=
  (∀ (fill : Nat → Byte) (p : Port), p.cmdOp = 0x0B → decode fill p = .ok (.cvRead p.aCv)) ∧
  (∀ (fill : Nat → Byte) (p : Port), p.cmdOp = 0x0C → decode fill p = .ok (.cvWrite p.aCv p.aVal)) ∧
  ∀ (cv : BitVec 16) (val : Byte) (s : State), s.cfg.Ok →
    ∃ hi lo : Byte, hi.toNat * 256 + lo.toNat = (cv.toNat + 65535) % 65536 ∧
      (∃ t, exec (.cvRead cv) s = .next t ∧
        Composed s t [0x09, 0x00, 0x40, 0x00, 0x23, 0x11, hi, lo, 0x23 ^^^ 0x11 ^^^ hi ^^^ lo]) ∧
      (∃ t, exec (.cvWrite cv val) s = .next t ∧
        Composed s t [0x0A, 0x00, 0x40, 0x00, 0x24, 0x12, hi, lo, val, 0x24 ^^^ 0x12 ^^^ hi ^^^ lo ^^^ val])

/-- 30_encoding.md R101, with the rows of R92 (decision D10): each named operation that is not refused does what the
expanded COMPOSE does. -/
def Obligations.NamedOperationsExpandToCompose : Prop :=
  ∀ (s : State),
    exec .getStatus s = exec (.compose 0x40 [0x21, 0x24] true) s ∧
    exec .trackOff s = exec (.compose 0x40 [0x21, 0x80] true) s ∧
    exec .trackOn s = exec (.compose 0x40 [0x21, 0x81] true) s ∧
    exec .getFwVersion s = exec (.compose 0x40 [0xF1, 0x0A] true) s ∧
    (∀ f0 f1 f2 f3 : Byte, exec (.setBcast (f3 ++ f2 ++ f1 ++ f0)) s = exec (.compose 0x50 [f0, f1, f2, f3] false) s) ∧
    (∀ addr : BitVec 14, exec (.getLocoInfo addr) s =
      exec (.compose 0x40 [0xE3, 0xF0, hiByte (toWire addr), loByte (toWire addr)] true) s) ∧
    (∀ (addr : BitVec 14) (steps : StepMode) (speed v : BitVec 7) (dir : Bool) (op : Byte),
      packSpeed s.cfg steps speed = .ok v → stepOpcode steps = some op →
      exec (.setLocoDrive addr steps speed dir) s =
        exec (.compose 0x40 [0xE4, op, hiByte (toWire addr), loByte (toWire addr), speedByte dir v] true) s) ∧
    (∀ (addr : BitVec 14) (fn : BitVec 6) (mode : FuncMode) (fb : Byte), funcByte mode fn = some fb →
      exec (.setLocoFunc addr fn mode) s =
        exec (.compose 0x40 [0xE4, 0xF8, hiByte (toWire addr), loByte (toWire addr), fb] true) s) ∧
    (∀ (hi lo : Byte) (tdir : TurnoutDir) (dc : Byte), turnoutByte tdir = some dc →
      exec (.setTurnout (be16 hi lo) tdir) s = exec (.compose 0x40 [0x53, hi, lo, dc] true) s) ∧
    (∀ hi lo : Byte, exec (.cvRead (be16 hi lo + 1)) s = exec (.compose 0x40 [0x23, 0x11, hi, lo] true) s) ∧
    (∀ hi lo val : Byte,
      exec (.cvWrite (be16 hi lo + 1) val) s = exec (.compose 0x40 [0x24, 0x12, hi, lo, val] true) s)

/-! ## Operand transforms -/

/-- 30_encoding.md R81 whole, and the value of R80: both transforms as numbers. -/
def Obligations.AddressCoding : Prop :=
  (∀ a : BitVec 14, (toWire a).toNat = if a.toNat < 128 then a.toNat else 0xC000 + a.toNat) ∧
  (∀ w : BitVec 16, (fromWire w).toNat = if 0xC000 ≤ w.toNat then w.toNat - 0xC000 else w.toNat)

/-- 30_encoding.md R82 ("[derived: from rules R80 and R81]"): L1, and exactly where L2 holds. -/
def Obligations.AddressRoundTrip : Prop :=
  (∀ a : BitVec 14, fromWire (toWire a) = a.setWidth 16) ∧
  (∀ w : BitVec 16,
    ((fromWire w).toNat ≤ 0x3FFF ∧ toWire ((fromWire w).setWidth 14) = w) ↔ (w.toNat ≤ 127 ∨ 0xC080 ≤ w.toNat)) ∧
  (fromWire 1000 = 1000 ∧ toWire 1000 = 0xC3E8)

/-- 30_encoding.md R84, the round trip ("[derived: …]", decision D21), over any admissible tables (10_state.md R38
P3). -/
def Obligations.SpeedRoundTrip : Prop :=
  ∀ (c : Config) (speed code : BitVec 7), c.Ok →
    (packSpeed c .steps14 speed = .ok code → unpackSpeed c 0b000 code = (.steps14, some speed)) ∧
    (packSpeed c .steps28 speed = .ok code → unpackSpeed c 0b010 code = (.steps28, some speed)) ∧
    (packSpeed c .steps128 speed = .ok code → unpackSpeed c 0b100 code = (.steps128, some speed))

/-- 10_state.md R36, R37, R38: the default tables are the closed forms and satisfy P1 to P4. The entries beyond the
pair 15 and 9 are the spec's own default (D17, log 3). -/
def Obligations.DefaultTablesAdmissible : Prop :=
  Config.default.Ok ∧ Config.default.fwd28[0] = 0 ∧
  (∀ s : Fin 29, 0 < s.val →
    (Config.default.fwd28[s]).toNat = (s.val + 1) % 2 * 16 + (s.val + 3) / 2) ∧
  (∀ v : Fin 32,
    (Config.default.rev28[v]).toNat = if v.val % 16 < 2 then 0 else 2 * (v.val % 16) - 3 + v.val / 16)

/-! ## Inbound frames -/

/-- 42_frame_decoder.md R150 (decisions D5, D19; the two ways to the meaning are log 11): PROCESS does what the row
does that the decoder resolves its buffer to, and answers RX_TRUNC where there is none. -/
def Obligations.ProcessRunsItsRow : Prop :=
  ∀ (rx : List Byte) (s : State),
    exec (.process rx) s =
      match decodeFrame rx with
      | some i => exec i s
      | none => .next { s with response := some (.process .rxTrunc .noEvent) }

/-- 42_frame_decoder.md R158, 60_exceptions.md R214 (decision D19): exactly which buffers are too short, and that
nothing is written. -/
def Obligations.ShortBuffersAreTruncated : Prop :=
  (∀ (rx : List Byte) (s : State), truncated rx = true →
    exec (.process rx) s = .next { s with response := some (.process .rxTrunc .noEvent) }) ∧
  (∀ (rx : List Byte) (s t : State), truncated rx = false → exec (.process rx) s = .next t →
    t.response ≠ some (.process .rxTrunc .noEvent)) ∧
  (∀ rx : List Byte, truncated rx = true ↔
    rx.length < 3 ∨
    (rx[2]? = some 0x40 ∧ (rx.length < 5 ∨ (rx[4]? = some 0x61 ∧ rx.length < 6) ∨
      (rx[4]? = some 0x62 ∧ rx.length < 7) ∨ (rx[4]? = some 0x64 ∧ rx.length < 9) ∨
      (rx[4]? = some 0xEF ∧ rx.length < 13))))

/-- 42_frame_decoder.md R154: the five rows, and the same by the bytes of the buffer. That five bytes answer
RX_TRUNC is decision D19 (log 15). -/
def Obligations.StatusReplyEvents : Prop :=
  (∀ s : State, exec .rxStatusTrackOff s = .next { s with response := some (.process .ok .trackOff) }) ∧
  (∀ s : State, exec .rxStatusTrackOn s = .next { s with response := some (.process .ok .trackOn) }) ∧
  (∀ s : State, exec .rxStatusProgMode s = .next { s with response := some (.process .ok .progMode) }) ∧
  (∀ s : State, exec .rxStatusCvNack s = .next { s with response := some (.process .ok .cvNack) }) ∧
  (∀ (key : Byte) (s : State), key ∉ [(0x00 : Byte), 0x01, 0x02, 0x13] →
    exec (.rxStatusOther key) s = .next { s with response := some (.process .ok .unknown) }) ∧
  (∀ (rx : List Byte) (key : Byte) (s : State), 6 ≤ rx.length → rx[2]? = some 0x40 → rx[4]? = some 0x61 →
    rx[5]? = some key →
    exec (.process rx) s = .next { s with response := some (.process .ok
      (if key = 0x00 then .trackOff else if key = 0x01 then .trackOn else if key = 0x02 then .progMode
       else if key = 0x13 then .cvNack else .unknown)) }) ∧
  (∀ (rx : List Byte) (s : State), rx.length = 5 → rx[2]? = some 0x40 → rx[4]? = some 0x61 →
    exec (.process rx) s = .next { s with response := some (.process .rxTrunc .noEvent) })

/-- 42_frame_decoder.md R155: the three rows, and the same by the bytes of the buffer. -/
def Obligations.PowerReplyEvents : Prop :=
  (∀ s : State, exec .rxPowerTrackOn s = .next { s with response := some (.process .ok .trackOn) }) ∧
  (∀ s : State, exec .rxPowerProgMode s = .next { s with response := some (.process .ok .progMode) }) ∧
  (∀ (key : Byte) (s : State), key ∉ [(0x00 : Byte), 0x20] →
    exec (.rxPowerOther key) s = .next { s with response := some (.process .ok .trackOff) }) ∧
  (∀ (rx : List Byte) (key : Byte) (s : State), 7 ≤ rx.length → rx[2]? = some 0x40 → rx[4]? = some 0x62 →
    rx[6]? = some key →
    exec (.process rx) s = .next { s with response := some (.process .ok
      (if key = 0x00 then .trackOn else if key = 0x20 then .progMode else .trackOff)) })

/-- 42_frame_decoder.md R156 (the modulo is decision D25): the number is the wire's plus one, modulo 2^16. -/
def Obligations.CvResultWritesCache : Prop :=
  (∀ (wireNum : BitVec 16) (val : Byte) (s : State),
    exec (.rxCvResult wireNum val) s =
      .next { s with cv := { num := wireNum + 1, val := val }, response := some (.process .ok .cvResult) }) ∧
  (∀ (rx : List Byte) (hi lo val : Byte) (s : State), 9 ≤ rx.length → rx[2]? = some 0x40 → rx[4]? = some 0x64 →
    rx[6]? = some hi → rx[7]? = some lo → rx[8]? = some val →
    exec (.process rx) s =
      .next { s with
        cv := { num := BitVec.ofNat 16 (hi.toNat * 256 + lo.toNat + 1), val := val }
        response := some (.process .ok .cvResult) })

/-- 43_loco_info_decode.md R180, R181, R183 to R186: every register but the speed, by the bits of the buffer. -/
def Obligations.LocoInfoFields : Prop :=
  ∀ (rx : List Byte) (b5 b6 b7 b8 b9 b10 b11 b12 : Byte) (s : State), 13 ≤ rx.length →
    rx[2]? = some 0x40 → rx[4]? = some 0xEF →
    rx[5]? = some b5 → rx[6]? = some b6 → rx[7]? = some b7 → rx[8]? = some b8 → rx[9]? = some b9 →
    rx[10]? = some b10 → rx[11]? = some b11 → rx[12]? = some b12 →
    ∃ t, exec (.process rx) s = .next t ∧ t.response = some (.process .ok .locoInfo) ∧
      (t.loco.addr.toNat =
        if 0xC000 ≤ b5.toNat * 256 + b6.toNat then b5.toNat * 256 + b6.toNat - 0xC000
        else b5.toNat * 256 + b6.toNat) ∧
      t.loco.steps = (if b7.toNat % 8 = 0 then .steps14 else if b7.toNat % 8 = 2 then .steps28
        else if b7.toNat % 8 = 4 then .steps128 else .unknown) ∧
      t.loco.occ = b7.getLsbD 3 ∧ t.loco.dir = b8.getLsbD 7 ∧ t.loco.light = b9.getLsbD 4 ∧
      (∀ k, k < 4 → t.loco.func.getLsbD k = b9.getLsbD k) ∧
      (∀ k, k < 8 → t.loco.func.getLsbD (4 + k) = b10.getLsbD k) ∧
      (∀ k, k < 8 → t.loco.func.getLsbD (12 + k) = b11.getLsbD k) ∧
      (∀ k, k < 8 → t.loco.func.getLsbD (20 + k) = b12.getLsbD k) ∧
      SameOutbound s t ∧ t.cv = s.cv ∧ t.lib = s.lib ∧ SameSurround s t

/-- 43_loco_info_decode.md R182, 30_encoding.md R84 (decisions D21, D22, D23): the speed in each mode; where the
rule draws it, it is the free value of log 8, and the next draw is another one. -/
def Obligations.LocoInfoSpeed : Prop :=
  ∀ (w : BitVec 16) (occ : Bool) (v : BitVec 7) (dir light : Bool) (func : BitVec 28) (s : State),
    exec (.rxLocoInfo w 0b000 occ v dir light func) s =
      .next { s with
        loco := { addr := fromWire w, speed := if v = 0 then 0 else v - 1, steps := .steps14, dir := dir,
                  light := light, func := func, occ := occ }
        response := some (.process .ok .locoInfo) } ∧
    (∀ h : v.toNat < 32, exec (.rxLocoInfo w 0b010 occ v dir light func) s =
      .next { s with
        loco := { addr := fromWire w, speed := (s.cfg.rev28[v.toNat]).setWidth 7, steps := .steps28, dir := dir,
                  light := light, func := func, occ := occ }
        response := some (.process .ok .locoInfo) }) ∧
    (32 ≤ v.toNat → exec (.rxLocoInfo w 0b010 occ v dir light func) s =
      .next { s with
        loco := { addr := fromWire w, speed := Config.drawSpeed s.draws, steps := .steps28, dir := dir,
                  light := light, func := func, occ := occ }
        draws := s.draws + 1
        response := some (.process .ok .locoInfo) }) ∧
    exec (.rxLocoInfo w 0b100 occ v dir light func) s =
      .next { s with
        loco := { addr := fromWire w, speed := v, steps := .steps128, dir := dir, light := light, func := func,
                  occ := occ }
        response := some (.process .ok .locoInfo) } ∧
    (∀ m : BitVec 3, m ∈ [0b001#3, 0b011#3, 0b101#3, 0b110#3, 0b111#3] →
      exec (.rxLocoInfo w m occ v dir light func) s =
        .next { s with
          loco := { addr := fromWire w, speed := Config.drawSpeed s.draws, steps := .unknown, dir := dir,
                    light := light, func := func, occ := occ }
          draws := s.draws + 1
          response := some (.process .ok .locoInfo) })

/-- 42_frame_decoder.md R157 (decision D24, log 14). -/
def Obligations.OtherSubOpcodesAreUnknown : Prop :=
  (∀ (sub : Byte) (s : State),
    exec (.rxXbusOther sub) s = .next { s with response := some (.process .ok .unknown) }) ∧
  (∀ (rx : List Byte) (sub : Byte) (s : State), 5 ≤ rx.length → rx[2]? = some 0x40 → rx[4]? = some sub →
    sub ∉ [(0x61 : Byte), 0x62, 0x64, 0xEF] →
    exec (.process rx) s = .next { s with response := some (.process .ok .unknown) })

/-- 42_frame_decoder.md R151 (the status beside the tag is decision D5, log 15): a recognised group, as its row of
the table and by the group byte of any buffer. That the row RX_GROUP_UNREC acknowledges a group which the
configuration recognises is the model's choice, log 13. -/
def Obligations.RecognisedGroupsAcknowledged : Prop :=
  (∀ (g : Byte) (i : Instr) (s : State), (g, i) ∈
     [((0x10 : Byte), Instr.rxGroupAck10), ((0x1A : Byte), Instr.rxGroupAck1A), ((0x30 : Byte), Instr.rxGroupAck30),
      ((0x50 : Byte), Instr.rxGroupAck50), ((0x51 : Byte), Instr.rxGroupAck51), ((0x60 : Byte), Instr.rxGroupAck60),
      ((0x61 : Byte), Instr.rxGroupAck61), ((0x70 : Byte), Instr.rxGroupAck70), ((0x71 : Byte), Instr.rxGroupAck71),
      ((0x80 : Byte), Instr.rxGroupAck80), ((0x81 : Byte), Instr.rxGroupAck81), ((0x82 : Byte), Instr.rxGroupAck82),
      ((0x84 : Byte), Instr.rxGroupAck84), ((0x85 : Byte), Instr.rxGroupAck85), ((0x88 : Byte), Instr.rxGroupAck88),
      ((0x89 : Byte), Instr.rxGroupAck89), ((0xA0 : Byte), Instr.rxGroupAckA0), ((0xA1 : Byte), Instr.rxGroupAckA1),
      ((0xA2 : Byte), Instr.rxGroupAckA2), ((0xA3 : Byte), Instr.rxGroupAckA3), ((0xA4 : Byte), Instr.rxGroupAckA4)] →
    g ∈ s.cfg.recognised → exec i s = .next { s with response := some (.process .ok .noEvent) }) ∧
  (∀ (g : Byte) (s : State), g ∈ s.cfg.recognised →
    exec (.rxGroupUnrec g) s = .next { s with response := some (.process .ok .noEvent) }) ∧
  (∀ (rx : List Byte) (g : Byte) (s : State), 3 ≤ rx.length → rx[2]? = some g → g ≠ 0x40 → g ∈ s.cfg.recognised →
    exec (.process rx) s = .next { s with response := some (.process .ok .noEvent) })

/-- 42_frame_decoder.md R152, 60_exceptions.md R213 (decision D5): a group that is not recognised; over any set of
recognised groups, so for the rows of the default set too (logs 3, 13). -/
def Obligations.UnrecognisedGroupsFail : Prop :=
  (∀ (g : Byte) (s : State), g ∉ s.cfg.recognised →
    exec (.rxGroupUnrec g) s = .next { s with response := some (.process .rxFail .noEvent) } ∧
    (g ≠ 0x40 → exec (groupRow g) s = .next { s with response := some (.process .rxFail .noEvent) })) ∧
  (∀ (rx : List Byte) (g : Byte) (s : State), 3 ≤ rx.length → rx[2]? = some g → g ≠ 0x40 → g ∉ s.cfg.recognised →
    exec (.process rx) s = .next { s with response := some (.process .rxFail .noEvent) })

/-- 30_encoding.md R97, default set (the spec's own decision D18, log 3): each row of the table acknowledges, and no
other group does. -/
def Obligations.DefaultGroupRows : Prop :=
  ∀ (g : Byte) (s : State), s.cfg = Config.default → g ≠ 0x40 →
    exec (groupRow g) s =
      .next { s with response := some (.process (if g ∈ Config.tableGroups then .ok else .rxFail) .noEvent) }

/-- 30_encoding.md R72 (decision D20): bytes beyond those the class reads are never seen. -/
def Obligations.ExcessBytesIgnored : Prop :=
  ∀ (rx more : List Byte) (i : Instr), decodeFrame rx = some i → decodeFrame (rx ++ more) = some i

/-- 30_encoding.md R73: the reserved bytes. -/
def Obligations.ReservedBytes : Prop :=
  (∀ (i : Instr) (s t : State), composes i = true → exec i s = .next t → t.response = some (.status .ok) →
    Memory.read t.txbuf 1 = some 0x00 ∧ Memory.read t.txbuf 3 = some 0x00) ∧
  (∀ (rx : List Byte) (i : Nat) (v : Byte), i ∈ [0, 1, 3] →
    decodeFrame (rx.set i v) = decodeFrame rx ∧ ∀ s : State, exec (.process (rx.set i v)) s = exec (.process rx) s)

/-- 30_encoding.md R99, don't-care row (decision D20, log 15; N26, U18): `RX[5]` of 0x62 and 0x64 frames,
`RX[7][7:4]` and `RX[9][7:5]` of 0xEF frames. -/
def Obligations.UnreadFieldsIgnored : Prop :=
  (∀ (rx : List Byte) (v : Byte), rx[2]? = some 0x40 → (rx[4]? = some 0x62 ∨ rx[4]? = some 0x64) →
    decodeFrame (rx.set 5 v) = decodeFrame rx) ∧
  (∀ (rx : List Byte) (old v : Byte), rx[2]? = some 0x40 → rx[4]? = some 0xEF → rx[7]? = some old →
    v.extractLsb' 0 4 = old.extractLsb' 0 4 → decodeFrame (rx.set 7 v) = decodeFrame rx) ∧
  (∀ (rx : List Byte) (old v : Byte), rx[2]? = some 0x40 → rx[4]? = some 0xEF → rx[9]? = some old →
    v.extractLsb' 0 5 = old.extractLsb' 0 5 → decodeFrame (rx.set 9 v) = decodeFrame rx)

/-- 43_loco_info_decode.md R187 (d) ("[derived: …]"): a drive frame's address and speed bytes, put into a loco-info
frame of the same mode, come back as the operands. -/
def Obligations.DriveInfoRoundTrip : Prop :=
  ∀ (addr : BitVec 14) (steps : StepMode) (speed : BitVec 7) (dir : Bool) (s t : State) (rx : List Byte) (b7 : Byte),
    s.cfg.Ok → exec (.setLocoDrive addr steps speed dir) s = .next t → t.response = some (.status .ok) →
    13 ≤ rx.length → rx[2]? = some 0x40 → rx[4]? = some 0xEF →
    rx[5]? = Memory.read t.txbuf 6 → rx[6]? = Memory.read t.txbuf 7 → rx[7]? = some b7 →
    rx[8]? = Memory.read t.txbuf 8 →
    (steps, b7.toNat % 8) ∈ [(StepMode.steps14, 0), (.steps28, 2), (.steps128, 4)] →
    ∃ u, exec (.process rx) t = .next u ∧ u.loco.addr = addr.setWidth 16 ∧ u.loco.steps = steps ∧
      u.loco.speed = speed ∧ u.loco.dir = dir

/-- 30_encoding.md R85 (decision D25): the number and value bytes of a CV_WRITE frame, put into a CV result, come
back as the operands, for all 65536 numbers. -/
def Obligations.CvWriteResultRoundTrip : Prop :=
  ∀ (cv : BitVec 16) (val : Byte) (s t : State) (rx : List Byte), s.cfg.Ok → exec (.cvWrite cv val) s = .next t →
    9 ≤ rx.length → rx[2]? = some 0x40 → rx[4]? = some 0x64 →
    rx[6]? = Memory.read t.txbuf 6 → rx[7]? = Memory.read t.txbuf 7 → rx[8]? = Memory.read t.txbuf 8 →
    exec (.process rx) t =
      .next { t with cv := { num := cv, val := val }, response := some (.process .ok .cvResult) }

/-! ## Accessors -/

/-- 44_accessors.md R200 to R203 (decision D34): each answers its registers and writes nothing. -/
def Obligations.AccessorsAnswerAndWriteNothing : Prop :=
  (∀ (fill : Nat → Byte) (p : Port), p.cmdOp = 0x0F → decode fill p = .ok .rdLoco) ∧
  (∀ (fill : Nat → Byte) (p : Port), p.cmdOp = 0x10 → decode fill p = .ok .rdCv) ∧
  (∀ (fill : Nat → Byte) (p : Port), p.cmdOp = 0x11 → decode fill p = .ok .rdLib) ∧
  (∀ (fill : Nat → Byte) (p : Port), p.cmdOp = 0x12 → decode fill p = .ok .rdReady) ∧
  ∀ s : State,
    exec .rdLoco s = .next { s with response := some (.loco .ok s.loco) } ∧
    exec .rdCv s = .next { s with response := some (.cv .ok s.cv) } ∧
    exec .rdLib s = .next { s with response := some (.lib .ok s.lib) } ∧
    exec .rdReady s = .next { s with response := some (.ready .ok s.txReady) }

/-! ## Rules about every instruction -/

/-- 60_exceptions.md R212 (decision D29): a status other than OK has written nothing, in an instruction and in a
step; the next command goes as if the refused one had never been issued; the tag beside it is EV_NONE. -/
def Obligations.RefusalWritesNothing : Prop :=
  (∀ (i : Instr) (s t : State) (r : Response), exec i s = .next t → t.response = some r → responseStatus r ≠ .ok →
    t = { s with response := some r } ∧ (∀ j, exec j t = exec j s) ∧
    (∀ st ev, r = .process st ev → ev = .noEvent)) ∧
  (∀ (s t : State) (p : Port) (rest : List Stimulus) (r : Response), s.inbox = .command p :: rest →
    step s = .next t → t.response = some r → responseStatus r ≠ .ok →
    t = { s with inbox := rest, draws := s.draws + 1, response := some r })

/-- 60_exceptions.md R211 ("[derived: …]"): every command answers, with a status of its own list. -/
def Obligations.StatusesPerCommand : Prop :=
  ∀ (i : Instr) (s t : State), s.cfg.Ok → exec i s = .next t →
    ∃ r, t.response = some r ∧ responseStatus r ∈ statuses i

/-- 10_state.md R35 ("[derived: …]"): who writes what. A cache changes only in a step that answers that cache's
event tag, the inbound side writes no outbound register, and nothing writes `lib.*`. -/
def Obligations.WriteMatrix : Prop :=
  ∀ (i : Instr) (s t : State), exec i s = .next t →
    (t.response ≠ some (.process .ok .locoInfo) → t.loco = s.loco) ∧
    (t.response ≠ some (.process .ok .cvResult) → t.cv = s.cv) ∧
    t.lib = s.lib ∧
    (hostSide i = true → SameCaches s t) ∧
    (hostSide i = false → SameOutbound s t) ∧
    SameSurround s t

/-- 10_state.md R35: "The two halves of the block share no state." What the inbound side does cannot depend on the
outbound registers, and the other way round. -/
def Obligations.HalvesShareNoState : Prop :=
  (∀ (i : Instr) (s s' t : State), hostSide i = false → s'.cfg = s.cfg → SameCaches s s' → s'.draws = s.draws →
    exec i s = .next t → ∃ t', exec i s' = .next t' ∧ t'.response = t.response ∧ SameCaches t t') ∧
  (∀ (i : Instr) (s s' t : State), (composes i = true ∨ i = .pull) → s'.cfg = s.cfg → s'.txbuf = s.txbuf →
    s'.txLen = s.txLen → s'.txReady = s.txReady →
    exec i s = .next t → ∃ t', exec i s' = .next t' ∧ t'.response = t.response ∧ SameOutbound t t')

/-- 10_state.md R33 (decision D24), R38: no step writes the constant tables or the parameters, and only reset
touches `lib.*`. -/
def Obligations.ConstantsNeverWritten : Prop :=
  ∀ s t : State, step s = .next t → t.cfg = s.cfg ∧ (s.inbox.head? ≠ some .reset → t.lib = s.lib)

/-- 10_state.md R40 (decision D4): the three tags without a frame are never produced. -/
def Obligations.TagsNeverProduced : Prop :=
  ∀ (i : Instr) (s t : State) (st : Status) (ev : EventTag), exec i s = .next t →
    t.response = some (.process st ev) → ev ∉ [EventTag.version, .fwVersion, .libData]

/-- 60_exceptions.md R210, 10_state.md R26, R40: the numeric codes (decisions D3, D4, D16). -/
def Obligations.NumericCodes : Prop :=
  [Status.ok, .rxFail, .rxTrunc, .eOverflow, .eEmptyCs, .eSteps, .eSpeed, .eOperand, .eCmd].map statusCode =
    [0, 1, 2, 3, 4, 5, 6, 7, 8] ∧
  [EventTag.noEvent, .trackOn, .trackOff, .progMode, .cvNack, .cvResult, .locoInfo, .version, .fwVersion, .libData,
    .unknown].map eventCode = [0, 1, 2, 3, 4, 5, 6, 7, 8, 9, 10] ∧
  [StepMode.steps14, .steps28, .steps128, .unknown].map stepModeCode = [0, 1, 2, 3]

/-! ## Runs -/

/-- The invariant holds right after reset. -/
def Obligations.ResetMeetsInvariant : Prop := State.reset.Inv

/-- 40_frame_composer.md R113, R114; 10_state.md R22: every step keeps the invariant, resets and refusals included.
-/ def Obligations.StepKeepsInvariant : Prop := ∀ s t : State, s.Inv → step s = .next t → t.Inv /-- 00_scope.md R6
(decision D1: "A step always terminates"), 20_memory.md R55: from a state that meets the invariant, with any list of
commands and resets before it, no run ever stops. -/
def Obligations.InvariantRunsNeverStop : Prop := ∀ s : State, s.Inv → s.Safe
end

