-- ==== Sys2Proof/Laws/Decode.lean ====
section
/-! SUPPORT. The laws of the port and its byte helpers: taking a 16-bit value apart and putting it together, and that
a buffer driven whole is read as it is. -/

namespace Sys2Proof

@[simp] theorem be16_hi_lo (x : BitVec 16) : be16 (hiByte x) (loByte x) = x := by
  apply BitVec.eq_of_getLsbD_eq
  intro i hi
  simp only [be16, hiByte, loByte, BitVec.getLsbD_append, BitVec.getLsbD_extractLsb']
  split
  · simp_all
  · have h : i - 8 < 8 := by omega
    have h' : 8 + (i - 8) = i := by omega
    simp [h, h']

@[simp] theorem hiByte_be16 (a b : Byte) : hiByte (be16 a b) = a := by
  apply BitVec.eq_of_getLsbD_eq
  intro i hi
  have h : ¬ (8 + i < 8) := by omega
  simp only [be16, hiByte, BitVec.getLsbD_extractLsb', BitVec.getLsbD_append, hi, h]
  simp

@[simp] theorem loByte_be16 (a b : Byte) : loByte (be16 a b) = b := by
  apply BitVec.eq_of_getLsbD_eq
  intro i hi
  simp only [be16, loByte, BitVec.getLsbD_extractLsb', BitVec.getLsbD_append, hi, Nat.zero_add]
  simp

/-- A buffer that the host drives whole is read as it is, whatever undriven bytes hold. -/
theorem drivenBytes_of_le (fill : Nat → Byte) {n : Nat} {bs : List Byte} (h : n ≤ bs.length) :
    drivenBytes fill n bs = bs.take n := by
  simp [drivenBytes, Nat.sub_eq_zero_of_le h]

/-- The block always reads as many bytes as the host says there are. -/
@[simp] theorem length_drivenBytes (fill : Nat → Byte) (n : Nat) (bs : List Byte) :
    (drivenBytes fill n bs).length = n := by
  simp only [drivenBytes, List.length_append, List.length_take, List.length_map, List.length_range']
  omega

/-- A PROCESS port with its buffer driven whole decodes to what the buffer decodes to. -/
theorem decode_ofFrame (fill : Nat → Byte) {rx : List Byte} (h : rx.length ≤ 65535) :
    decode fill (Port.ofFrame rx) = .ok (decodeProcess rx) := by
  have hlen : rx.length % 65536 = rx.length := Nat.mod_eq_of_lt (by omega)
  simp [decode, Port.ofFrame, hlen, drivenBytes_of_le]

@[simp] theorem stepModeOfCode_code (m : StepMode) : stepModeOfCode (stepModeCode m) = m := by
  cases m <;> decide

@[simp] theorem funcModeOfCode_code (m : FuncMode) : funcModeOfCode (funcModeCode m) = m := by
  cases m <;> decide

@[simp] theorem turnoutDirOfCode_code (d : TurnoutDir) : turnoutDirOfCode (turnoutDirCode d) = d := by
  cases d <;> decide

end Sys2Proof
end

