-- ==== Sys2Proof/Laws/Fields.lean ====
section
/-! SUPPORT. The laws of operand assembly: what the packed bytes hold, as bits and as numbers, and what reading an
index of an inbound buffer gives. -/

namespace Sys2Proof

/-- `BE16` as a number (00_scope.md R10). -/
theorem be16_toNat (a b : Byte) : (be16 a b).toNat = a.toNat * 256 + b.toNat := by
  rw [be16, BitVec.toNat_append, ← Nat.shiftLeft_add_eq_or_of_lt b.isLt, Nat.shiftLeft_eq]

theorem hiByte_eq_ofNat (x : BitVec 16) : hiByte x = BitVec.ofNat 8 (x.toNat / 256) := by
  simp [hiByte, BitVec.extractLsb', Nat.shiftRight_eq_div_pow]

theorem loByte_eq_ofNat (x : BitVec 16) : loByte x = BitVec.ofNat 8 x.toNat := by
  simp [loByte, BitVec.extractLsb']

theorem byteAt_eq {rx : List Byte} {i : Nat} {b : Byte} (h : rx[i]? = some b) : byteAt rx i = b := by
  simp [byteAt, List.getD, h]

theorem getElem?_eq_byteAt {rx : List Byte} {i : Nat} (h : i < rx.length) : rx[i]? = some (byteAt rx i) := by
  simp [byteAt, List.getD, h]

/-- A long enough frame of group 0x40 is decoded by its sub-opcode. -/
theorem decodeFrame_xbus {rx : List Byte} (h : 5 ≤ rx.length) (hg : rx[2]? = some 0x40) :
    decodeFrame rx = decodeXbus rx := by
  rw [decodeFrame, if_neg (by omega), if_pos (byteAt_eq hg), if_neg (by omega)]

namespace Machine

/-- The speed byte as a number (30_encoding.md R83). -/
theorem speedByte_toNat (dir : Bool) (v : BitVec 7) : (speedByte dir v).toNat = dir.toNat * 128 + v.toNat := by
  rw [speedByte, BitVec.toNat_append, ← Nat.shiftLeft_add_eq_or_of_lt v.isLt, Nat.shiftLeft_eq]
  simp

/-- Bit 7 of the speed byte is the direction. -/
theorem speedByte_dir (dir : Bool) (v : BitVec 7) : (speedByte dir v).getLsbD 7 = dir := by
  rw [speedByte, BitVec.getLsbD_append]
  simp

/-- Bits 6 to 0 of the speed byte are the wire speed code. -/
theorem speedByte_code (dir : Bool) (v : BitVec 7) : (speedByte dir v).extractLsb' 0 7 = v := by
  apply BitVec.eq_of_getLsbD_eq
  intro i hi
  rw [BitVec.getLsbD_extractLsb', speedByte, BitVec.getLsbD_append]
  simp [hi]

/-- An admissible forward table holds codes of 5 bits (10_state.md R38 P3). -/
theorem fwd28_lt {c : Config} (hok : c.Ok) {n : Nat} (h : n < 29) : (c.fwd28[n]).toNat < 32 := by
  have hp := hok.2.2.2.1 ⟨n, h⟩
  by_contra hn
  have hnone := Vector.getElem?_eq_none (xs := c.rev28) (i := c.fwd28[n].toNat) (by omega)
  simp only [Fin.getElem_fin] at hp
  rw [hnone] at hp
  simp at hp

end Machine

end Sys2Proof
end

