-- ==== Sys2Proof/Laws/State.lean ====
section
/-! SUPPORT. One lemma per field and per update of the state: what the update leaves in the field. Proofs rewrite
with these and never unfold a record update. -/

namespace Sys2Proof.Machine

variable (s : State)

@[simp] theorem State.raiseReady_cfg : (s.raiseReady).cfg = s.cfg := rfl
@[simp] theorem State.raiseReady_txbuf : (s.raiseReady).txbuf = s.txbuf := rfl
@[simp] theorem State.raiseReady_txLen : (s.raiseReady).txLen = s.txLen := rfl
@[simp] theorem State.raiseReady_txReady : (s.raiseReady).txReady = true := rfl
@[simp] theorem State.raiseReady_loco : (s.raiseReady).loco = s.loco := rfl
@[simp] theorem State.raiseReady_cv : (s.raiseReady).cv = s.cv := rfl
@[simp] theorem State.raiseReady_lib : (s.raiseReady).lib = s.lib := rfl
@[simp] theorem State.raiseReady_inbox : (s.raiseReady).inbox = s.inbox := rfl
@[simp] theorem State.raiseReady_response : (s.raiseReady).response = s.response := rfl
@[simp] theorem State.raiseReady_draws : (s.raiseReady).draws = s.draws := rfl

@[simp] theorem State.clearReady_cfg : (s.clearReady).cfg = s.cfg := rfl
@[simp] theorem State.clearReady_txbuf : (s.clearReady).txbuf = s.txbuf := rfl
@[simp] theorem State.clearReady_txLen : (s.clearReady).txLen = s.txLen := rfl
@[simp] theorem State.clearReady_txReady : (s.clearReady).txReady = false := rfl
@[simp] theorem State.clearReady_loco : (s.clearReady).loco = s.loco := rfl
@[simp] theorem State.clearReady_cv : (s.clearReady).cv = s.cv := rfl
@[simp] theorem State.clearReady_lib : (s.clearReady).lib = s.lib := rfl
@[simp] theorem State.clearReady_inbox : (s.clearReady).inbox = s.inbox := rfl
@[simp] theorem State.clearReady_response : (s.clearReady).response = s.response := rfl
@[simp] theorem State.clearReady_draws : (s.clearReady).draws = s.draws := rfl

@[simp] theorem State.respond_cfg (r : Response) : (s.respond r).cfg = s.cfg := rfl
@[simp] theorem State.respond_txbuf (r : Response) : (s.respond r).txbuf = s.txbuf := rfl
@[simp] theorem State.respond_txLen (r : Response) : (s.respond r).txLen = s.txLen := rfl
@[simp] theorem State.respond_txReady (r : Response) : (s.respond r).txReady = s.txReady := rfl
@[simp] theorem State.respond_loco (r : Response) : (s.respond r).loco = s.loco := rfl
@[simp] theorem State.respond_cv (r : Response) : (s.respond r).cv = s.cv := rfl
@[simp] theorem State.respond_lib (r : Response) : (s.respond r).lib = s.lib := rfl
@[simp] theorem State.respond_inbox (r : Response) : (s.respond r).inbox = s.inbox := rfl
@[simp] theorem State.respond_response (r : Response) : (s.respond r).response = some r := rfl
@[simp] theorem State.respond_draws (r : Response) : (s.respond r).draws = s.draws := rfl

@[simp] theorem State.storeFrame_cfg (f : List Byte) : (s.storeFrame f).cfg = s.cfg := rfl
@[simp] theorem State.storeFrame_txbuf (f : List Byte) : (s.storeFrame f).txbuf = Memory.writeBytes s.txbuf 0 f := rfl
@[simp] theorem State.storeFrame_txLen (f : List Byte) : (s.storeFrame f).txLen = BitVec.ofNat 8 f.length := rfl
@[simp] theorem State.storeFrame_txReady (f : List Byte) : (s.storeFrame f).txReady = s.txReady := rfl
@[simp] theorem State.storeFrame_loco (f : List Byte) : (s.storeFrame f).loco = s.loco := rfl
@[simp] theorem State.storeFrame_cv (f : List Byte) : (s.storeFrame f).cv = s.cv := rfl
@[simp] theorem State.storeFrame_lib (f : List Byte) : (s.storeFrame f).lib = s.lib := rfl
@[simp] theorem State.storeFrame_inbox (f : List Byte) : (s.storeFrame f).inbox = s.inbox := rfl
@[simp] theorem State.storeFrame_response (f : List Byte) : (s.storeFrame f).response = s.response := rfl
@[simp] theorem State.storeFrame_draws (f : List Byte) : (s.storeFrame f).draws = s.draws := rfl

@[simp] theorem State.setLoco_cfg (c : LocoCache) : (s.setLoco c).cfg = s.cfg := rfl
@[simp] theorem State.setLoco_txbuf (c : LocoCache) : (s.setLoco c).txbuf = s.txbuf := rfl
@[simp] theorem State.setLoco_txLen (c : LocoCache) : (s.setLoco c).txLen = s.txLen := rfl
@[simp] theorem State.setLoco_txReady (c : LocoCache) : (s.setLoco c).txReady = s.txReady := rfl
@[simp] theorem State.setLoco_loco (c : LocoCache) : (s.setLoco c).loco = c := rfl
@[simp] theorem State.setLoco_cv (c : LocoCache) : (s.setLoco c).cv = s.cv := rfl
@[simp] theorem State.setLoco_lib (c : LocoCache) : (s.setLoco c).lib = s.lib := rfl
@[simp] theorem State.setLoco_inbox (c : LocoCache) : (s.setLoco c).inbox = s.inbox := rfl
@[simp] theorem State.setLoco_response (c : LocoCache) : (s.setLoco c).response = s.response := rfl
@[simp] theorem State.setLoco_draws (c : LocoCache) : (s.setLoco c).draws = s.draws := rfl

@[simp] theorem State.setCv_cfg (c : CvCache) : (s.setCv c).cfg = s.cfg := rfl
@[simp] theorem State.setCv_txbuf (c : CvCache) : (s.setCv c).txbuf = s.txbuf := rfl
@[simp] theorem State.setCv_txLen (c : CvCache) : (s.setCv c).txLen = s.txLen := rfl
@[simp] theorem State.setCv_txReady (c : CvCache) : (s.setCv c).txReady = s.txReady := rfl
@[simp] theorem State.setCv_loco (c : CvCache) : (s.setCv c).loco = s.loco := rfl
@[simp] theorem State.setCv_cv (c : CvCache) : (s.setCv c).cv = c := rfl
@[simp] theorem State.setCv_lib (c : CvCache) : (s.setCv c).lib = s.lib := rfl
@[simp] theorem State.setCv_inbox (c : CvCache) : (s.setCv c).inbox = s.inbox := rfl
@[simp] theorem State.setCv_response (c : CvCache) : (s.setCv c).response = s.response := rfl
@[simp] theorem State.setCv_draws (c : CvCache) : (s.setCv c).draws = s.draws := rfl

@[simp] theorem State.nextDraw_cfg : (s.nextDraw).cfg = s.cfg := rfl
@[simp] theorem State.nextDraw_txbuf : (s.nextDraw).txbuf = s.txbuf := rfl
@[simp] theorem State.nextDraw_txLen : (s.nextDraw).txLen = s.txLen := rfl
@[simp] theorem State.nextDraw_txReady : (s.nextDraw).txReady = s.txReady := rfl
@[simp] theorem State.nextDraw_loco : (s.nextDraw).loco = s.loco := rfl
@[simp] theorem State.nextDraw_cv : (s.nextDraw).cv = s.cv := rfl
@[simp] theorem State.nextDraw_lib : (s.nextDraw).lib = s.lib := rfl
@[simp] theorem State.nextDraw_inbox : (s.nextDraw).inbox = s.inbox := rfl
@[simp] theorem State.nextDraw_response : (s.nextDraw).response = s.response := rfl
@[simp] theorem State.nextDraw_draws : (s.nextDraw).draws = s.draws + 1 := rfl

@[simp] theorem State.take_cfg (rest : List Stimulus) : (s.take rest).cfg = s.cfg := rfl
@[simp] theorem State.take_txbuf (rest : List Stimulus) : (s.take rest).txbuf = s.txbuf := rfl
@[simp] theorem State.take_txLen (rest : List Stimulus) : (s.take rest).txLen = s.txLen := rfl
@[simp] theorem State.take_txReady (rest : List Stimulus) : (s.take rest).txReady = s.txReady := rfl
@[simp] theorem State.take_loco (rest : List Stimulus) : (s.take rest).loco = s.loco := rfl
@[simp] theorem State.take_cv (rest : List Stimulus) : (s.take rest).cv = s.cv := rfl
@[simp] theorem State.take_lib (rest : List Stimulus) : (s.take rest).lib = s.lib := rfl
@[simp] theorem State.take_inbox (rest : List Stimulus) : (s.take rest).inbox = rest := rfl
@[simp] theorem State.take_response (rest : List Stimulus) : (s.take rest).response = none := rfl
@[simp] theorem State.take_draws (rest : List Stimulus) : (s.take rest).draws = s.draws := rfl

@[simp] theorem takeCommand_cfg (rest : List Stimulus) : (takeCommand s rest).cfg = s.cfg := rfl
@[simp] theorem takeCommand_txbuf (rest : List Stimulus) : (takeCommand s rest).txbuf = s.txbuf := rfl
@[simp] theorem takeCommand_txLen (rest : List Stimulus) : (takeCommand s rest).txLen = s.txLen := rfl
@[simp] theorem takeCommand_txReady (rest : List Stimulus) : (takeCommand s rest).txReady = s.txReady := rfl
@[simp] theorem takeCommand_loco (rest : List Stimulus) : (takeCommand s rest).loco = s.loco := rfl
@[simp] theorem takeCommand_cv (rest : List Stimulus) : (takeCommand s rest).cv = s.cv := rfl
@[simp] theorem takeCommand_lib (rest : List Stimulus) : (takeCommand s rest).lib = s.lib := rfl
@[simp] theorem takeCommand_inbox (rest : List Stimulus) : (takeCommand s rest).inbox = rest := rfl
@[simp] theorem takeCommand_response (rest : List Stimulus) : (takeCommand s rest).response = none := rfl
@[simp] theorem takeCommand_draws (rest : List Stimulus) : (takeCommand s rest).draws = s.draws + 1 := rfl

@[simp] theorem assertReset_cfg (rest : List Stimulus) : (assertReset s rest).cfg = s.cfg := rfl
@[simp] theorem assertReset_txbuf (rest : List Stimulus) : (assertReset s rest).txbuf = [] := rfl
@[simp] theorem assertReset_txLen (rest : List Stimulus) : (assertReset s rest).txLen = 0 := rfl
@[simp] theorem assertReset_txReady (rest : List Stimulus) : (assertReset s rest).txReady = false := rfl
@[simp] theorem assertReset_loco (rest : List Stimulus) : (assertReset s rest).loco = LocoCache.unspecified s.draws := rfl
@[simp] theorem assertReset_cv (rest : List Stimulus) : (assertReset s rest).cv = CvCache.unspecified s.draws := rfl
@[simp] theorem assertReset_lib (rest : List Stimulus) : (assertReset s rest).lib = LibCache.unspecified s.draws := rfl
@[simp] theorem assertReset_inbox (rest : List Stimulus) : (assertReset s rest).inbox = rest := rfl
@[simp] theorem assertReset_response (rest : List Stimulus) : (assertReset s rest).response = none := rfl
@[simp] theorem assertReset_draws (rest : List Stimulus) : (assertReset s rest).draws = s.draws + 1 := rfl

@[simp] theorem idle_cfg : (idle s).cfg = s.cfg := rfl
@[simp] theorem idle_txbuf : (idle s).txbuf = s.txbuf := rfl
@[simp] theorem idle_txLen : (idle s).txLen = s.txLen := rfl
@[simp] theorem idle_txReady : (idle s).txReady = s.txReady := rfl
@[simp] theorem idle_loco : (idle s).loco = s.loco := rfl
@[simp] theorem idle_cv : (idle s).cv = s.cv := rfl
@[simp] theorem idle_lib : (idle s).lib = s.lib := rfl
@[simp] theorem idle_inbox : (idle s).inbox = [] := rfl
@[simp] theorem idle_response : (idle s).response = none := rfl
@[simp] theorem idle_draws : (idle s).draws = s.draws := rfl

/-! The relations of Safety.lean are reflexive. -/

theorem SameCaches.refl : SameCaches s s := ⟨rfl, rfl, rfl⟩

theorem SameOutbound.refl : SameOutbound s s := ⟨fun _ => rfl, rfl, rfl⟩

theorem SameSurround.refl : SameSurround s s := ⟨rfl, rfl⟩

end Sys2Proof.Machine
end

