-- ==== Sys2Proof/Laws/Memory.lean ====
section
/-! SUPPORT. The laws of `TXBUF` as memory: a read after a write, and that every memory operation keeps the canonical
form and the range. -/

namespace Sys2Proof.Machine

@[simp] theorem Memory.read_nil (i : Nat) : Memory.read [] i = none := rfl

theorem Memory.read_cons (c : Host.Cell) (m : Memory) (i : Nat) :
    Memory.read (c :: m) i = if c.1 = i then some c.2 else Memory.read m i := rfl

/-- A read after a write to the same index gives the byte written. -/
@[simp] theorem Memory.read_write_same (m : Memory) (i : Nat) (v : Byte) :
    Memory.read (Memory.write m i v) i = some v := by
  induction m with
  | nil => simp [Memory.write, Memory.read_cons]
  | cons c m ih =>
    simp only [Memory.write]
    split
    · simp [Memory.read_cons]
    · split
      · simp [Memory.read_cons]
      · rename_i h
        simp [Memory.read_cons, ih, Ne.symm h]

/-- A write leaves every other index alone. -/
theorem Memory.read_write_other (m : Memory) {i j : Nat} (v : Byte) (h : i ≠ j) :
    Memory.read (Memory.write m i v) j = Memory.read m j := by
  induction m with
  | nil => simp [Memory.write, Memory.read_cons, h]
  | cons c m ih =>
    simp only [Memory.write]
    split
    · simp [Memory.read_cons, h]
    · split
      · rename_i h'
        simp [Memory.read_cons, h, ← h']
      · simp [Memory.read_cons, ih]

/-- The cells of a memory after a write are the cell written and cells that were there. -/
theorem Memory.mem_write {m : Memory} {i : Nat} {v : Byte} {c : Host.Cell} (h : c ∈ Memory.write m i v) :
    c = (i, v) ∨ c ∈ m := by
  induction m with
  | nil => simpa [Memory.write] using h
  | cons d m ih =>
    simp only [Memory.write] at h
    split at h
    · simpa using h
    · split at h
      · rcases List.mem_cons.mp h with h | h
        · exact .inl h
        · exact .inr (List.mem_cons_of_mem _ h)
      · rcases List.mem_cons.mp h with h | h
        · exact .inr (h ▸ List.mem_cons_self)
        · exact (ih h).imp_right (List.mem_cons_of_mem _)

/-- A write keeps the canonical form. -/
theorem Memory.write_wf {m : Memory} (i : Nat) (v : Byte) (h : Memory.wf m) : Memory.wf (Memory.write m i v) := by
  induction m with
  | nil => simp [Memory.write, Memory.wf]
  | cons c m ih =>
    obtain ⟨hc, hm⟩ := List.pairwise_cons.mp h
    simp only [Memory.write]
    split
    · rename_i hlt
      refine List.pairwise_cons.mpr ⟨fun d hd => ?_, h⟩
      rcases List.mem_cons.mp hd with rfl | hd
      · exact hlt
      · exact Nat.lt_trans hlt (hc d hd)
    · split
      · rename_i heq
        exact List.pairwise_cons.mpr ⟨fun d hd => heq ▸ hc d hd, hm⟩
      · refine List.pairwise_cons.mpr ⟨fun d hd => ?_, ih hm⟩
        rcases Memory.mem_write hd with rfl | hd
        · dsimp only
          omega
        · exact hc d hd

/-- Writing bytes keeps the canonical form. -/
theorem Memory.writeBytes_wf {m : Memory} (i : Nat) (bs : List Byte) (h : Memory.wf m) :
    Memory.wf (Memory.writeBytes m i bs) := by
  induction bs generalizing m i with
  | nil => exact h
  | cons b bs ih => exact ih (i + 1) (Memory.write_wf i b h)

/-- Writing bytes below a bound keeps every index below it. -/
theorem Memory.mem_writeBytes_lt {m : Memory} {i n : Nat} {bs : List Byte} (hm : ∀ c ∈ m, c.1 < n)
    (hn : i + bs.length ≤ n) : ∀ c ∈ Memory.writeBytes m i bs, c.1 < n := by
  induction bs generalizing m i with
  | nil => exact hm
  | cons b bs ih =>
    have hlen : i + (bs.length + 1) ≤ n := hn
    refine ih (fun c hc => ?_) (by omega)
    rcases Memory.mem_write hc with rfl | hc
    · dsimp only
      omega
    · exact hm c hc

/-- Writing bytes leaves the indices below the first one alone. -/
theorem Memory.read_writeBytes_below (m : Memory) {i j : Nat} (bs : List Byte) (h : j < i) :
    Memory.read (Memory.writeBytes m i bs) j = Memory.read m j := by
  induction bs generalizing m i with
  | nil => rfl
  | cons b bs ih =>
    rw [Memory.writeBytes, ih _ (by omega), Memory.read_write_other _ _ (by omega)]

/-- A read after writing bytes: the byte written at that index, or what was there. -/
theorem Memory.read_writeBytes (m : Memory) (i j : Nat) (bs : List Byte) :
    Memory.read (Memory.writeBytes m i bs) (i + j) =
      if j < bs.length then bs[j]? else Memory.read m (i + j) := by
  induction bs generalizing m i j with
  | nil => simp [Memory.writeBytes]
  | cons b bs ih =>
    cases j with
    | zero => simp [Memory.writeBytes, Memory.read_writeBytes_below]
    | succ j =>
      have h := ih (Memory.write m i b) (i + 1) j
      rw [show i + 1 + j = i + (j + 1) by omega] at h
      rw [Memory.writeBytes, h, Memory.read_write_other _ _ (by omega)]
      simp

end Sys2Proof.Machine
end

