-- ==== Sys2Proof/Laws/Ops.lean ====
section
/-! SUPPORT. One lemma per shared operation that says everything it can do; proofs about instructions cite these and
do not unfold the operation. -/

namespace Sys2Proof.Machine

/-! The frame. -/

/-- A frame of format TX is as long as its length byte says, unless it is the refused checksum over nothing. -/
theorem length_frameBytes (group : Byte) {payload : List Byte} {cs : Bool} (h : ¬ (cs = true ∧ payload = [])) :
    (frameBytes group payload cs).length = frameLength payload cs := by
  cases cs with
  | false => simp [frameBytes, frameLength, trailer]; omega
  | true =>
    cases payload with
    | nil => simp at h
    | cons b bs => simp [frameBytes, frameLength, trailer]; omega

/-- The seeded fold and the fold from zero agree on every payload that has a first byte. -/
theorem xorFold_eq_foldl (b : Byte) (bs : List Byte) : xorFold b bs = (b :: bs).foldl (· ^^^ ·) 0 := by
  simp [xorFold]

/-! COMPOSE. -/

/-- The state after a successful compose, in the words of Safety.lean. -/
theorem composed_storeFrame (s : State) {f : List Byte} (h : f.length ≤ 255) :
    Composed s (((s.storeFrame f).raiseReady).respond (.status .ok)) f where
  bytes i hi := by simpa [hi] using Memory.read_writeBytes s.txbuf 0 i f
  above i hi := by simpa [Nat.not_lt.mpr hi] using Memory.read_writeBytes s.txbuf 0 i f
  len := by simp; omega
  ready := rfl
  answer := rfl
  caches := ⟨rfl, rfl, rfl⟩
  surround := ⟨rfl, rfl⟩
  draws := rfl

/-- What a compose answers when neither refusal applies. -/
theorem compose_accepted {group : Byte} {payload : List Byte} {cs : Bool} {s : State}
    (he : ¬ (cs = true ∧ payload = [])) (hl : frameLength payload cs ≤ s.cfg.outbufSize.toNat) :
    compose group payload cs s =
      .next (((s.storeFrame (frameBytes group payload cs)).raiseReady).respond (.status .ok)) := by
  simp only [compose, if_neg he, if_neg (Nat.not_lt.mpr hl)]

/-- A compose that neither refusal stops leaves its frame and nothing else. -/
theorem compose_composed {group : Byte} {payload : List Byte} {cs : Bool} {s : State}
    (he : ¬ (cs = true ∧ payload = [])) (hl : frameLength payload cs ≤ s.cfg.outbufSize.toNat) :
    ∃ t, compose group payload cs s = .next t ∧ Composed s t (frameBytes group payload cs) := by
  refine ⟨_, compose_accepted he hl, composed_storeFrame s ?_⟩
  have := s.cfg.outbufSize.isLt
  rw [length_frameBytes group he]
  omega

/-- Everything a compose can do: one of its two refusals, or its frame in the buffer. -/
theorem compose_cases {group : Byte} {payload : List Byte} {cs : Bool} {s : State} {o : Result}
    (h : compose group payload cs s = o) :
    ((cs = true ∧ payload = []) ∧ o = .next (s.respond (.status .eEmptyCs))) ∨
    (s.cfg.outbufSize.toNat < frameLength payload cs ∧ o = .next (s.respond (.status .eOverflow))) ∨
    (¬ (cs = true ∧ payload = []) ∧ frameLength payload cs ≤ s.cfg.outbufSize.toNat ∧
      o = .next (((s.storeFrame (frameBytes group payload cs)).raiseReady).respond (.status .ok))) := by
  subst h
  by_cases he : cs = true ∧ payload = []
  · exact .inl ⟨he, by simp only [compose, if_pos he]; rfl⟩
  · by_cases hl : s.cfg.outbufSize.toNat < frameLength payload cs
    · exact .inr (.inl ⟨hl, by simp only [compose, if_neg he, if_pos hl]; rfl⟩)
    · exact .inr (.inr ⟨he, Nat.not_lt.mp hl, compose_accepted he (Nat.not_lt.mp hl)⟩)

/-! PULL. -/

/-- A read of bytes that are all there and in range gives them, in order. -/
theorem readTxBytes_of_written {s : State} {f : List Byte} {i : Nat}
    (hread : ∀ k, k < f.length → Memory.read s.txbuf (i + k) = f[k]?)
    (hrange : i + f.length ≤ s.cfg.outbufSize.toNat) :
    readTxBytes s i f.length = .ok f := by
  induction f generalizing i with
  | nil => rfl
  | cons b bs ih =>
    have hlen : i + (bs.length + 1) ≤ s.cfg.outbufSize.toNat := hrange
    have h0 : Memory.read s.txbuf i = some b := by simpa using hread 0 (by simp)
    have hb : readTx s i = .ok b := by
      simp only [readTx, if_pos (show i < s.cfg.outbufSize.toNat by omega), h0]
    have hbs : readTxBytes s (i + 1) bs.length = .ok bs :=
      ih (fun k hk => by
        have := hread (k + 1) (by simpa using hk)
        rwa [show i + (k + 1) = i + 1 + k by omega, List.getElem?_cons_succ] at this) (by omega)
    simp only [List.length_cons, readTxBytes, hb, hbs]

/-- A read of bytes that are written and in range never faults. -/
theorem readTxBytes_total {s : State} {i n : Nat} (hw : ∀ k, k < n → (Memory.read s.txbuf (i + k)).isSome)
    (hr : i + n ≤ s.cfg.outbufSize.toNat) : ∃ bs, readTxBytes s i n = .ok bs ∧ bs.length = n := by
  induction n generalizing i with
  | zero => exact ⟨[], rfl, rfl⟩
  | succ n ih =>
    obtain ⟨b, hb⟩ := Option.isSome_iff_exists.mp (hw 0 (by omega))
    obtain ⟨bs, hbs, hlen⟩ := ih (i := i + 1)
      (fun k hk => by rw [show i + 1 + k = i + (k + 1) by omega]; exact hw (k + 1) (by omega)) (by omega)
    have hb' : readTx s i = .ok b := by
      rw [Nat.add_zero] at hb
      simp only [readTx, if_pos (show i < s.cfg.outbufSize.toNat by omega), hb]
    exact ⟨b :: bs, by simp only [readTxBytes, hb', hbs], by simp [hlen]⟩

/-- A pull of a pending frame hands it over and clears the flag. -/
theorem pullFrame_pending {s : State} {f : List Byte} (hready : s.txReady = true) (hlen : s.txLen.toNat = f.length)
    (hread : ∀ k, k < f.length → Memory.read s.txbuf k = f[k]?)
    (hrange : f.length ≤ s.cfg.outbufSize.toNat) :
    pullFrame s = .next (s.clearReady.respond (.pull .ok true s.txLen f)) := by
  have h := readTxBytes_of_written (s := s) (f := f) (i := 0) (by simpa using hread) (by omega)
  simp only [pullFrame, hready, if_true, hlen, h]

/-- A pull with nothing pending is an answer, not an error. -/
theorem pullFrame_empty {s : State} (h : s.txReady = false) :
    pullFrame s = .next (s.respond (.pull .ok false 0 [])) := by
  simp [pullFrame, h]

/-- Everything a pull can do. -/
theorem pullFrame_cases {s : State} {o : Result} (h : pullFrame s = o) :
    (s.txReady = false ∧ o = .next (s.respond (.pull .ok false 0 []))) ∨
    (s.txReady = true ∧ ∃ data, readTxBytes s 0 s.txLen.toNat = .ok data ∧
      o = .next (s.clearReady.respond (.pull .ok true s.txLen data))) ∨
    (s.txReady = true ∧ ∃ f, readTxBytes s 0 s.txLen.toNat = .error f ∧ o = .fault f) := by
  subst h
  cases hr : s.txReady with
  | false => exact .inl ⟨rfl, pullFrame_empty hr⟩
  | true =>
    refine .inr ?_
    cases hb : readTxBytes s 0 s.txLen.toNat with
    | ok data => exact .inl ⟨rfl, data, rfl, by simp [pullFrame, hr, hb]⟩
    | error f => exact .inr ⟨rfl, f, rfl, by simp [pullFrame, hr, hb]⟩

/-! The inbound side. -/

/-- A status reply gives one event and writes nothing. -/
theorem statusReply_cases (key : Byte) (s : State) :
    ∃ ev, statusReply key s = event ev s ∧ ev ∈ [EventTag.trackOff, .trackOn, .progMode, .cvNack, .unknown] := by
  unfold statusReply
  split
  · exact ⟨_, rfl, by decide⟩
  split
  · exact ⟨_, rfl, by decide⟩
  split
  · exact ⟨_, rfl, by decide⟩
  split
  · exact ⟨_, rfl, by decide⟩
  · exact ⟨_, rfl, by decide⟩

/-- A track-power reply gives one event and writes nothing. -/
theorem powerReply_cases (key : Byte) (s : State) :
    ∃ ev, powerReply key s = event ev s ∧ ev ∈ [EventTag.trackOff, .trackOn, .progMode] := by
  unfold powerReply
  split
  · exact ⟨_, rfl, by decide⟩
  split
  · exact ⟨_, rfl, by decide⟩
  · exact ⟨_, rfl, by decide⟩

/-- A frame of another group is acknowledged or fails, and writes nothing. -/
theorem groupReply_cases (group : Byte) (s : State) :
    (group ∈ s.cfg.recognised ∧ groupReply group s = .next (s.respond (.process .ok .noEvent))) ∨
    (group ∉ s.cfg.recognised ∧ groupReply group s = .next (s.respond (.process .rxFail .noEvent))) := by
  by_cases h : group ∈ s.cfg.recognised
  · exact .inl ⟨h, by simp [groupReply, h, reply]⟩
  · exact .inr ⟨h, by simp [groupReply, h, reply]⟩

/-- A locomotive-info frame writes all seven registers and answers its tag; only the speed and the count of draws
depend on whether the speed is drawn. -/
theorem locoInfoReply_eq (w : BitVec 16) (m : BitVec 3) (occ : Bool) (v : BitVec 7) (dir light : Bool)
    (func : BitVec 28) (s : State) :
    ∃ speed n, locoInfoReply w m occ v dir light func s =
      .next { s with
        loco := { addr := fromWire w, speed := speed, steps := (unpackSpeed s.cfg m v).1, dir := dir,
                  light := light, func := func, occ := occ }
        draws := n
        response := some (.process .ok .locoInfo) } ∧
      (unpackSpeed s.cfg m v).2.getD speed = speed := by
  unfold locoInfoReply
  cases h : (unpackSpeed s.cfg m v).2 with
  | some speed => exact ⟨speed, s.draws, rfl, rfl⟩
  | none => exact ⟨Config.drawSpeed s.draws, s.draws + 1, rfl, rfl⟩

end Sys2Proof.Machine
end

