-- ==== Sys2Proof/Laws/Instr.lean ====
section
/-! SUPPORT. Everything an instruction can do, by kind: a command that composes, a pull, an accessor, and the inbound
side. A proof over all instructions splits by these few cases and never by constructor. -/

namespace Sys2Proof.Machine

/-! Rows of inbound frames and the reply they stand for. -/

theorem exec_statusRow (key : Byte) (s : State) : exec (statusRow key) s = statusReply key s := by
  unfold statusRow
  split
  · next h => subst h; rfl
  split
  · next h => subst h; rfl
  split
  · next h => subst h; rfl
  split
  · next h => subst h; rfl
  · rfl

theorem exec_powerRow (key : Byte) (s : State) : exec (powerRow key) s = powerReply key s := by
  unfold powerRow
  split
  · next h => subst h; rfl
  split
  · next h => subst h; rfl
  · rfl

/-- Every row of the group table replies as its group byte does. -/
theorem exec_of_mem_groupRows {g : Byte} {i : Instr} (h : (g, i) ∈ groupRows) (s : State) :
    exec i s = groupReply g s := by
  simp only [groupRows, List.mem_cons, List.not_mem_nil, or_false, Prod.mk.injEq] at h
  rcases h with h | h | h | h | h | h | h | h | h | h | h | h | h | h | h | h | h | h | h | h | h <;>
    (obtain ⟨rfl, rfl⟩ := h; rfl)

theorem exec_groupRow (g : Byte) (s : State) : exec (groupRow g) s = groupReply g s := by
  unfold groupRow
  cases h : List.lookup g groupRows with
  | none => rfl
  | some i =>
    obtain ⟨l₁, l₂, hl, -⟩ := List.lookup_eq_some_iff.mp h
    exact exec_of_mem_groupRows (by rw [hl]; simp) s

/-- Everything PROCESS can do: the truncated answer, or the reply of one of the six classes. -/
theorem execProcess_cases (rx : List Byte) :
    (∀ s, execProcess rx s = truncatedFrame s) ∨
    (∃ key, ∀ s, execProcess rx s = statusReply key s) ∨
    (∃ key, ∀ s, execProcess rx s = powerReply key s) ∨
    (∃ w v, ∀ s, execProcess rx s = cvResultReply w v s) ∨
    (∃ w m occ v dir light func, ∀ s, execProcess rx s = locoInfoReply w m occ v dir light func s) ∨
    (∀ s, execProcess rx s = xbusOtherReply s) ∨
    (∃ g, ∀ s, execProcess rx s = groupReply g s) := by
  by_cases h1 : rx.length < 3
  · exact .inl fun _ => by rw [execProcess, if_pos h1]
  by_cases h2 : byteAt rx 2 = 0x40
  · by_cases h3 : rx.length < 5
    · exact .inl fun _ => by rw [execProcess, if_neg h1, if_pos h2, if_pos h3]
    have hx (s : State) := execProcess.eq_1 rx s
    simp only [if_neg h1, if_pos h2, if_neg h3] at hx
    by_cases h4 : byteAt rx 4 = 0x61
    · simp only [if_pos h4] at hx
      by_cases h : rx.length < 6
      · exact .inl fun s => by rw [hx, if_pos h]
      · exact .inr (.inl ⟨_, fun s => by rw [hx, if_neg h]⟩)
    simp only [if_neg h4] at hx
    by_cases h5 : byteAt rx 4 = 0x62
    · simp only [if_pos h5] at hx
      by_cases h : rx.length < 7
      · exact .inl fun s => by rw [hx, if_pos h]
      · exact .inr (.inr (.inl ⟨_, fun s => by rw [hx, if_neg h]⟩))
    simp only [if_neg h5] at hx
    by_cases h6 : byteAt rx 4 = 0x64
    · simp only [if_pos h6] at hx
      by_cases h : rx.length < 9
      · exact .inl fun s => by rw [hx, if_pos h]
      · exact .inr (.inr (.inr (.inl ⟨_, _, fun s => by rw [hx, if_neg h]⟩)))
    simp only [if_neg h6] at hx
    by_cases h7 : byteAt rx 4 = 0xEF
    · simp only [if_pos h7] at hx
      by_cases h : rx.length < 13
      · exact .inl fun s => by rw [hx, if_pos h]
      · exact .inr (.inr (.inr (.inr (.inl ⟨_, _, _, _, _, _, _, fun s => by rw [hx, if_neg h]⟩))))
    · simp only [if_neg h7] at hx
      exact .inr (.inr (.inr (.inr (.inr (.inl hx)))))
  · exact .inr (.inr (.inr (.inr (.inr (.inr ⟨_, fun _ => by rw [execProcess, if_neg h1, if_neg h2]⟩)))))

/-! The inbound side. -/

/-- The instruction answers a status and a tag and writes nothing, over every state with the configuration of `s`. -/
def AnswersOnly (i : Instr) (s : State) : Prop :=
  ∃ st ev, st ∈ [Status.ok, .rxFail, .rxTrunc] ∧ (st ≠ .ok → ev = .noEvent) ∧
    ev ∉ [EventTag.locoInfo, .cvResult, .version, .fwVersion, .libData] ∧
    ∀ s' : State, s'.cfg = s.cfg → exec i s' = .next (s'.respond (.process st ev))

/-- The instruction writes `cv.*` and answers EV_CV_RESULT. -/
def WritesCv (i : Instr) : Prop :=
  ∃ c, ∀ s' : State, exec i s' = .next { s' with cv := c, response := some (.process .ok .cvResult) }

/-- The instruction writes `loco.*` and answers EV_LOCO_INFO, over every state with the configuration and the draw
number of `s`. -/
def WritesLoco (i : Instr) (s : State) : Prop :=
  ∃ c n, ∀ s' : State, s'.cfg = s.cfg → s'.draws = s.draws →
    exec i s' = .next { s' with loco := c, draws := n, response := some (.process .ok .locoInfo) }

theorem answersOnly_of_event {i : Instr} {ev : EventTag} (s : State)
    (hev : ev ∉ [EventTag.locoInfo, .cvResult, .version, .fwVersion, .libData])
    (h : ∀ s', exec i s' = event ev s') : AnswersOnly i s :=
  ⟨.ok, ev, by decide, by simp, hev, fun s' _ => h s'⟩

theorem answersOnly_of_statusReply {i : Instr} {key : Byte} (s : State)
    (h : ∀ s', exec i s' = statusReply key s') : AnswersOnly i s := by
  simp only [statusReply] at h
  split at h
  · exact answersOnly_of_event s (by decide) h
  split at h
  · exact answersOnly_of_event s (by decide) h
  split at h
  · exact answersOnly_of_event s (by decide) h
  split at h
  · exact answersOnly_of_event s (by decide) h
  · exact answersOnly_of_event s (by decide) h

theorem answersOnly_of_powerReply {i : Instr} {key : Byte} (s : State)
    (h : ∀ s', exec i s' = powerReply key s') : AnswersOnly i s := by
  simp only [powerReply] at h
  split at h
  · exact answersOnly_of_event s (by decide) h
  split at h
  · exact answersOnly_of_event s (by decide) h
  · exact answersOnly_of_event s (by decide) h

theorem answersOnly_of_groupReply {i : Instr} {g : Byte} (s : State)
    (h : ∀ s', exec i s' = groupReply g s') : AnswersOnly i s := by
  by_cases hg : g ∈ s.cfg.recognised
  · exact ⟨.ok, .noEvent, by decide, by simp, by decide, fun s' hs => by rw [h, groupReply, if_pos (hs ▸ hg)]; rfl⟩
  · exact ⟨.rxFail, .noEvent, by decide, by simp, by decide,
      fun s' hs => by rw [h, groupReply, if_neg (hs ▸ hg)]; rfl⟩

theorem writesLoco_of_locoInfoReply {i : Instr} {w : BitVec 16} {m : BitVec 3} {occ : Bool} {v : BitVec 7}
    {dir light : Bool} {func : BitVec 28} (s : State)
    (h : ∀ s', exec i s' = locoInfoReply w m occ v dir light func s') : WritesLoco i s := by
  cases hu : (unpackSpeed s.cfg m v).2 with
  | some speed =>
    refine ⟨{ addr := fromWire w, speed := speed, steps := (unpackSpeed s.cfg m v).1, dir := dir, light := light,
              func := func, occ := occ }, s.draws, fun s' hs hd => ?_⟩
    have hu' : (unpackSpeed s'.cfg m v).2 = some speed := by rw [hs, hu]
    rw [h]
    simp only [locoInfoReply, hu', ← hd, ← hs]
    rfl
  | none =>
    refine ⟨{ addr := fromWire w, speed := Config.drawSpeed s.draws, steps := (unpackSpeed s.cfg m v).1, dir := dir,
              light := light, func := func, occ := occ }, s.draws + 1, fun s' hs hd => ?_⟩
    have hu' : (unpackSpeed s'.cfg m v).2 = none := by rw [hs, hu]
    rw [h]
    simp only [locoInfoReply, hu', ← hd, ← hs]
    rfl

/-- Everything the inbound side can do. -/
theorem inbound_cases {i : Instr} (s : State) (h : hostSide i = false) :
    AnswersOnly i s ∨ WritesCv i ∨ WritesLoco i s := by
  cases i <;> simp only [hostSide, Bool.true_eq_false] at h
  case process rx =>
    rcases execProcess_cases rx with h | ⟨_, h⟩ | ⟨_, h⟩ | ⟨_, _, h⟩ | ⟨_, _, _, _, _, _, _, h⟩ | h | ⟨_, h⟩
    · exact .inl ⟨.rxTrunc, .noEvent, by decide, by simp, by decide, fun s' _ => h s'⟩
    · exact .inl (answersOnly_of_statusReply s h)
    · exact .inl (answersOnly_of_powerReply s h)
    · exact .inr (.inl ⟨_, h⟩)
    · exact .inr (.inr (writesLoco_of_locoInfoReply s h))
    · exact .inl (answersOnly_of_event s (by decide) h)
    · exact .inl (answersOnly_of_groupReply s h)
  case rxStatusOther k => exact .inl (answersOnly_of_statusReply s fun _ => rfl)
  case rxPowerOther k => exact .inl (answersOnly_of_powerReply s fun _ => rfl)
  case rxCvResult n v => exact .inr (.inl ⟨_, fun _ => rfl⟩)
  case rxLocoInfo w m o v d l f => exact .inr (.inr (writesLoco_of_locoInfoReply s fun _ => rfl))
  case rxXbusOther => exact .inl (answersOnly_of_event (ev := .unknown) s (by decide) fun _ => rfl)
  case rxStatusTrackOff => exact .inl (answersOnly_of_event (ev := .trackOff) s (by decide) fun _ => rfl)
  case rxStatusTrackOn => exact .inl (answersOnly_of_event (ev := .trackOn) s (by decide) fun _ => rfl)
  case rxStatusProgMode => exact .inl (answersOnly_of_event (ev := .progMode) s (by decide) fun _ => rfl)
  case rxStatusCvNack => exact .inl (answersOnly_of_event (ev := .cvNack) s (by decide) fun _ => rfl)
  case rxPowerTrackOn => exact .inl (answersOnly_of_event (ev := .trackOn) s (by decide) fun _ => rfl)
  case rxPowerProgMode => exact .inl (answersOnly_of_event (ev := .progMode) s (by decide) fun _ => rfl)
  all_goals exact .inl (answersOnly_of_groupReply s fun _ => rfl)

/-! The outbound side. -/

theorem packSpeed_error {c : Config} {m : StepMode} {v : BitVec 7} {st : Status} (h : packSpeed c m v = .error st) :
    st ≠ .ok := by
  unfold packSpeed at h
  split at h <;> (try split at h) <;> simp_all
  all_goals (subst h; decide)

/-- A command that composes refuses, or is a COMPOSE, over every state with the configuration of `s`. -/
theorem composes_cases {i : Instr} (s : State) (h : composes i = true) :
    (∃ st, st ≠ .ok ∧ ∀ s' : State, s'.cfg = s.cfg → exec i s' = refuse st s') ∨
    ∃ g p cs, ∀ s' : State, s'.cfg = s.cfg → exec i s' = compose g p cs s' := by
  cases i <;> simp only [composes, Bool.false_eq_true] at h
  case setLocoDrive a m sp d =>
    cases hop : stepOpcode m with
    | none => exact .inl ⟨.eSteps, by decide, fun s' _ => by simp only [exec, execSetLocoDrive, hop]⟩
    | some op =>
      cases hp : packSpeed s.cfg m sp with
      | error st =>
        exact .inl ⟨st, packSpeed_error hp, fun s' hs => by simp only [exec, execSetLocoDrive, hop, hs, hp]⟩
      | ok v =>
        exact .inr ⟨0x40, [0xE4, op, hiByte (toWire a), loByte (toWire a), speedByte d v], true,
          fun s' hs => by simp only [exec, execSetLocoDrive, hop, hs, hp]⟩
  case setLocoFunc a f m =>
    cases hf : funcByte m f with
    | none => exact .inl ⟨.eOperand, by decide, fun s' _ => by simp only [exec, execSetLocoFunc, hf]⟩
    | some fb =>
      exact .inr ⟨0x40, [0xE4, 0xF8, hiByte (toWire a), loByte (toWire a), fb], true,
        fun s' _ => by simp only [exec, execSetLocoFunc, hf]⟩
  case setTurnout a d =>
    cases hd : turnoutByte d with
    | none => exact .inl ⟨.eOperand, by decide, fun s' _ => by simp only [exec, execSetTurnout, hd]⟩
    | some dc =>
      exact .inr ⟨0x40, [0x53, hiByte a, loByte a, dc], true, fun s' _ => by simp only [exec, execSetTurnout, hd]⟩
  case compose g p cs => exact .inr ⟨g, p, cs, fun _ _ => rfl⟩
  case getStatus => exact .inr ⟨0x40, [0x21, 0x24], true, fun _ _ => rfl⟩
  case trackOff => exact .inr ⟨0x40, [0x21, 0x80], true, fun _ _ => rfl⟩
  case trackOn => exact .inr ⟨0x40, [0x21, 0x81], true, fun _ _ => rfl⟩
  case getFwVersion => exact .inr ⟨0x40, [0xF1, 0x0A], true, fun _ _ => rfl⟩
  case setBcast f =>
    exact .inr ⟨0x50, [f.extractLsb' 0 8, f.extractLsb' 8 8, f.extractLsb' 16 8, f.extractLsb' 24 8], false,
      fun _ _ => rfl⟩
  case getLocoInfo a => exact .inr ⟨0x40, [0xE3, 0xF0, hiByte (toWire a), loByte (toWire a)], true, fun _ _ => rfl⟩
  case cvRead c => exact .inr ⟨0x40, [0x23, 0x11, hiByte (cvToWire c), loByte (cvToWire c)], true, fun _ _ => rfl⟩
  case cvWrite c v =>
    exact .inr ⟨0x40, [0x24, 0x12, hiByte (cvToWire c), loByte (cvToWire c), v], true, fun _ _ => rfl⟩

/-- Everything a command that composes can do: an answer other than OK and nothing written, or a frame stored whole
with its header in place. -/
theorem composes_next {i : Instr} {s t : State} (h : composes i = true) (he : exec i s = .next t) :
    (∃ st, st ≠ .ok ∧ t = s.respond (.status st)) ∨
    (∃ f, 4 ≤ f.length ∧ f.length ≤ s.cfg.outbufSize.toNat ∧ f[0]? = some (BitVec.ofNat 8 f.length) ∧
      f[1]? = some 0 ∧ f[3]? = some 0 ∧ t = ((s.storeFrame f).raiseReady).respond (.status .ok)) := by
  rcases composes_cases s h with ⟨st, hst, hr⟩ | ⟨g, p, cs, hc⟩
  · rw [hr s rfl] at he
    injection he with he
    exact .inl ⟨st, hst, he.symm⟩
  · rw [hc s rfl] at he
    rcases compose_cases he with ⟨_, h⟩ | ⟨_, h⟩ | ⟨h1, h2, h⟩ <;> injection h with h
    · exact .inl ⟨_, by decide, h⟩
    · exact .inl ⟨_, by decide, h⟩
    · have hlen := length_frameBytes g h1
      refine .inr ⟨_, ?_, by rw [hlen]; exact h2, by rw [hlen]; rfl, rfl, rfl, h⟩
      rw [hlen, frameLength]
      omega

/-- The commands of the host's side are the composers, PULL and the accessors. -/
theorem hostSide_cases {i : Instr} (h : hostSide i = true) :
    composes i = true ∨ i = .pull ∨ i = .rdLoco ∨ i = .rdCv ∨ i = .rdLib ∨ i = .rdReady := by
  cases i <;> simp_all [hostSide, composes]

/-- Everything a PULL that answers can do. -/
theorem pull_next {s t : State} (h : exec .pull s = .next t) :
    (s.txReady = false ∧ t = s.respond (.pull .ok false 0 [])) ∨
    (s.txReady = true ∧ ∃ d, readTxBytes s 0 s.txLen.toNat = .ok d ∧
      t = s.clearReady.respond (.pull .ok true s.txLen d)) := by
  rcases pullFrame_cases (show pullFrame s = _ from h) with ⟨a, b⟩ | ⟨a, d, b, c⟩ | ⟨_, _, _, c⟩
  · injection b with b
    exact .inl ⟨a, b⟩
  · injection c with c
    exact .inr ⟨a, d, b, c⟩
  · cases c

/-! Runs. -/

/-- A run that makes a step goes on from the next state. -/
theorem run_succ {s t : State} (h : step s = .next t) (n : Nat) :
    Sys2Proof.core.run (n + 1) s = Sys2Proof.core.run n t := by
  have hs : Sys2Proof.core.step s = .next t := h
  have e : Host.Core.run Sys2Proof.core (n + 1) s = _ := Host.Core.run.eq_2 Sys2Proof.core s n
  rw [hs] at e
  exact e

end Sys2Proof.Machine
end

