-- ==== Sys2Proof/Laws/PerInstr.lean ====
section
/-! SUPPORT. What holds of every instruction as syntax, one lemma per constructor. EncodeDriven: the encoder issues a
defined command code, and drives every byte that its lengths promise, so that what undriven bytes read as
(70_reset_and_hazards.md R257) never enters an encoded instruction. -/

namespace Sys2Proof.Laws.EncodeDriven

/-- The encoder of a well-formed instruction issues a code of 30_encoding.md R90 and overstates no length. -/
def Statement (i : Instr) : Prop :=
  i.wellFormed = true →
    1 ≤ (encode i).cmdOp.toNat ∧ (encode i).cmdOp.toNat ≤ 0x12 ∧
    (encode i).aN.toNat ≤ (encode i).aPayload.length ∧ (encode i).rxLen.toNat ≤ (encode i).rx.length

/-- A command without byte operands drives none. -/
theorem of_no_bytes {i : Instr} (hc : 1 ≤ (encode i).cmdOp.toNat ∧ (encode i).cmdOp.toNat ≤ 0x12)
    (hn : (encode i).aN = 0) (hr : (encode i).rxLen = 0) : Statement i :=
  fun _ => ⟨hc.1, hc.2, by simp [hn], by simp [hr]⟩

/-- A row of inbound frames drives its frame whole. -/
theorem of_frame {i : Instr} {rx : List Byte} (h : encode i = Port.ofFrame rx) : Statement i := fun _ => by
  simp only [h, Port.ofFrame, Port.quiet, BitVec.toNat_ofNat]
  exact ⟨by decide, by decide, Nat.le_refl 0, Nat.mod_le _ _⟩

theorem compose (group : Byte) (payload : List Byte) (cs : Bool) :
    Statement (.compose group payload cs) := fun _ => by
  simp only [encode, Port.quiet, BitVec.toNat_ofNat]
  exact ⟨by decide, by decide, Nat.mod_le _ _, Nat.le_refl 0⟩

theorem getStatus : Statement .getStatus := of_no_bytes ⟨by simp only [encode]; decide, by simp only [encode]; decide⟩ rfl rfl

theorem trackOff : Statement .trackOff := of_no_bytes ⟨by simp only [encode]; decide, by simp only [encode]; decide⟩ rfl rfl

theorem trackOn : Statement .trackOn := of_no_bytes ⟨by simp only [encode]; decide, by simp only [encode]; decide⟩ rfl rfl

theorem getFwVersion : Statement .getFwVersion := of_no_bytes ⟨by simp only [encode]; decide, by simp only [encode]; decide⟩ rfl rfl

theorem setBcast (flags : BitVec 32) : Statement (.setBcast flags) := of_no_bytes ⟨by simp only [encode]; decide, by simp only [encode]; decide⟩ rfl rfl

theorem getLocoInfo (addr : BitVec 14) : Statement (.getLocoInfo addr) := of_no_bytes ⟨by simp only [encode]; decide, by simp only [encode]; decide⟩ rfl rfl

theorem setLocoDrive (addr : BitVec 14) (steps : StepMode) (speed : BitVec 7) (dir : Bool) :
    Statement (.setLocoDrive addr steps speed dir) := of_no_bytes ⟨by simp only [encode]; decide, by simp only [encode]; decide⟩ rfl rfl

theorem setLocoFunc (addr : BitVec 14) (fn : BitVec 6) (mode : FuncMode) :
    Statement (.setLocoFunc addr fn mode) := of_no_bytes ⟨by simp only [encode]; decide, by simp only [encode]; decide⟩ rfl rfl

theorem setTurnout (taddr : BitVec 16) (tdir : TurnoutDir) : Statement (.setTurnout taddr tdir) := of_no_bytes ⟨by simp only [encode]; decide, by simp only [encode]; decide⟩ rfl rfl

theorem cvRead (cv : BitVec 16) : Statement (.cvRead cv) := of_no_bytes ⟨by simp only [encode]; decide, by simp only [encode]; decide⟩ rfl rfl

theorem cvWrite (cv : BitVec 16) (val : Byte) : Statement (.cvWrite cv val) := of_no_bytes ⟨by simp only [encode]; decide, by simp only [encode]; decide⟩ rfl rfl

theorem pull : Statement .pull := of_no_bytes ⟨by simp only [encode]; decide, by simp only [encode]; decide⟩ rfl rfl

theorem process (rx : List Byte) : Statement (.process rx) := of_frame rfl

theorem rdLoco : Statement .rdLoco := of_no_bytes ⟨by simp only [encode]; decide, by simp only [encode]; decide⟩ rfl rfl

theorem rdCv : Statement .rdCv := of_no_bytes ⟨by simp only [encode]; decide, by simp only [encode]; decide⟩ rfl rfl

theorem rdLib : Statement .rdLib := of_no_bytes ⟨by simp only [encode]; decide, by simp only [encode]; decide⟩ rfl rfl

theorem rdReady : Statement .rdReady := of_no_bytes ⟨by simp only [encode]; decide, by simp only [encode]; decide⟩ rfl rfl

theorem rxStatusTrackOff : Statement .rxStatusTrackOff := of_frame rfl

theorem rxStatusTrackOn : Statement .rxStatusTrackOn := of_frame rfl

theorem rxStatusProgMode : Statement .rxStatusProgMode := of_frame rfl

theorem rxStatusCvNack : Statement .rxStatusCvNack := of_frame rfl

theorem rxStatusOther (key : Byte) : Statement (.rxStatusOther key) := of_frame rfl

theorem rxPowerTrackOn : Statement .rxPowerTrackOn := of_frame rfl

theorem rxPowerProgMode : Statement .rxPowerProgMode := of_frame rfl

theorem rxPowerOther (key : Byte) : Statement (.rxPowerOther key) := of_frame rfl

theorem rxCvResult (wireNum : BitVec 16) (val : Byte) : Statement (.rxCvResult wireNum val) := of_frame rfl

theorem rxLocoInfo (wireAddr : BitVec 16) (mode : BitVec 3) (occ : Bool) (code : BitVec 7) (dir : Bool) (light : Bool) (func : BitVec 28) :
    Statement (.rxLocoInfo wireAddr mode occ code dir light func) := of_frame rfl

theorem rxXbusOther (sub : Byte) : Statement (.rxXbusOther sub) := of_frame rfl

theorem rxGroupAck10 : Statement .rxGroupAck10 := of_frame rfl

theorem rxGroupAck1A : Statement .rxGroupAck1A := of_frame rfl

theorem rxGroupAck30 : Statement .rxGroupAck30 := of_frame rfl

theorem rxGroupAck50 : Statement .rxGroupAck50 := of_frame rfl

theorem rxGroupAck51 : Statement .rxGroupAck51 := of_frame rfl

theorem rxGroupAck60 : Statement .rxGroupAck60 := of_frame rfl

theorem rxGroupAck61 : Statement .rxGroupAck61 := of_frame rfl

theorem rxGroupAck70 : Statement .rxGroupAck70 := of_frame rfl

theorem rxGroupAck71 : Statement .rxGroupAck71 := of_frame rfl

theorem rxGroupAck80 : Statement .rxGroupAck80 := of_frame rfl

theorem rxGroupAck81 : Statement .rxGroupAck81 := of_frame rfl

theorem rxGroupAck82 : Statement .rxGroupAck82 := of_frame rfl

theorem rxGroupAck84 : Statement .rxGroupAck84 := of_frame rfl

theorem rxGroupAck85 : Statement .rxGroupAck85 := of_frame rfl

theorem rxGroupAck88 : Statement .rxGroupAck88 := of_frame rfl

theorem rxGroupAck89 : Statement .rxGroupAck89 := of_frame rfl

theorem rxGroupAckA0 : Statement .rxGroupAckA0 := of_frame rfl

theorem rxGroupAckA1 : Statement .rxGroupAckA1 := of_frame rfl

theorem rxGroupAckA2 : Statement .rxGroupAckA2 := of_frame rfl

theorem rxGroupAckA3 : Statement .rxGroupAckA3 := of_frame rfl

theorem rxGroupAckA4 : Statement .rxGroupAckA4 := of_frame rfl

theorem rxGroupUnrec (group : Byte) : Statement (.rxGroupUnrec group) := of_frame rfl

end Sys2Proof.Laws.EncodeDriven
end

