-- ==== Sys2Proof/Tests/Slice0.lean ====
section
/-! SUPPORT. Small tests, expected results from the spec: the checks of well-formedness, decoding word by word from
30_encoding.md R90, R91 and R98, single steps from the vectors of 95_test_vectors.md, and for every statement with
hypotheses a witness that meets them. -/

namespace Sys2Proof.Tests

open Sys2Proof.Machine

/-! ## Well-formedness: an ill-formed term for each check -/

theorem test_wellFormed_compose_refuses : (Instr.compose 0x40 (List.replicate 256 0) false).wellFormed = false := by
  rw [Instr.wellFormed, List.length_replicate]; decide
theorem test_wellFormed_compose : (Instr.compose 0x40 (List.replicate 255 0) false).wellFormed = true := by
  rw [Instr.wellFormed, List.length_replicate]; decide
theorem test_wellFormed_process_whole_refuses : (Instr.process [0x03, 0x00, 0xA4]).wellFormed = false := by decide
theorem test_wellFormed_process :
    (Instr.process [0x0C, 0x00, 0x40, 0x00, 0xEF, 0, 3, 2, 0x89, 0x10, 0, 0]).wellFormed = true := by decide
theorem test_wellFormed_status_refuses :
    ∀ k ∈ [(0x00 : Byte), 0x01, 0x02, 0x13], (Instr.rxStatusOther k).wellFormed = false := by decide
theorem test_wellFormed_power_refuses : ∀ k ∈ [(0x00 : Byte), 0x20], (Instr.rxPowerOther k).wellFormed = false := by
  decide
theorem test_wellFormed_xbus_refuses :
    ∀ k ∈ [(0x61 : Byte), 0x62, 0x64, 0xEF], (Instr.rxXbusOther k).wellFormed = false := by decide
theorem test_wellFormed_group_refuses :
    ∀ g ∈ [(0x40 : Byte), 0x10, 0x51, 0xA4], (Instr.rxGroupUnrec g).wellFormed = false := by decide

/-! ## Decoding: the command port (30_encoding.md R90, R91) -/

/-- What undriven bytes read as, in these tests. -/
def fill : Nat → Byte := fun _ => 0xAA

/-- The decoder's answer. -/
def decoded (p : Port) : Option Instr := (decode fill p).toOption

theorem test_decode_compose :
    decoded { Port.quiet with cmdOp := 0b00001, aGroup := 0x99, aN := 3, aPayload := [0x01, 0x02, 0x03], aCs := true } =
      some (.compose 0x99 [0x01, 0x02, 0x03] true) := by
  decide
theorem test_decode_getStatus : decoded { Port.quiet with cmdOp := 0b00010 } = some .getStatus := by decide
theorem test_decode_trackOff : decoded { Port.quiet with cmdOp := 0b00011 } = some .trackOff := by decide
theorem test_decode_trackOn : decoded { Port.quiet with cmdOp := 0b00100 } = some .trackOn := by decide
theorem test_decode_getFwVersion : decoded { Port.quiet with cmdOp := 0b00101 } = some .getFwVersion := by decide
theorem test_decode_setBcast :
    decoded { Port.quiet with cmdOp := 0b00110, aFlags := 0x00010203 } = some (.setBcast 0x00010203) := by
  decide
theorem test_decode_getLocoInfo :
    decoded { Port.quiet with cmdOp := 0b00111, aAddr := 1000 } = some (.getLocoInfo 1000) := by
  decide
theorem test_decode_setLocoDrive :
    decoded { Port.quiet with cmdOp := 0b01000, aAddr := 0x03E8, aSteps := 1, aSpeed := 0x0F, aDir := true } =
      some (.setLocoDrive 1000 .steps28 15 true) := by
  decide
theorem test_decode_setLocoFunc :
    decoded { Port.quiet with cmdOp := 0b01001, aAddr := 3, aFn := 1, aMode := 1 } = some (.setLocoFunc 3 1 .on) := by
  decide
theorem test_decode_setTurnout :
    decoded { Port.quiet with cmdOp := 0b01010, aTaddr := 0x0005, aTdir := 1 } = some (.setTurnout 5 .turn) := by
  decide
theorem test_decode_cvRead :
    decoded { Port.quiet with cmdOp := 0b01011, aCv := 0x001D } = some (.cvRead 29) := by decide
theorem test_decode_cvWrite :
    decoded { Port.quiet with cmdOp := 0b01100, aCv := 0x0005, aVal := 0x2A } = some (.cvWrite 5 42) := by
  decide
theorem test_decode_pull : decoded { Port.quiet with cmdOp := 0b01101 } = some .pull := by decide
theorem test_decode_process :
    decoded { Port.quiet with cmdOp := 0b01110, rx := [0x04, 0x00], rxLen := 2 } = some (.process [0x04, 0x00]) := by
  decide
theorem test_decode_rdLoco : decoded { Port.quiet with cmdOp := 0b01111 } = some .rdLoco := by decide
theorem test_decode_rdCv : decoded { Port.quiet with cmdOp := 0b10000 } = some .rdCv := by decide
theorem test_decode_rdLib : decoded { Port.quiet with cmdOp := 0b10001 } = some .rdLib := by decide
theorem test_decode_rdReady : decoded { Port.quiet with cmdOp := 0b10010 } = some .rdReady := by decide
theorem test_decode_undefined :
    ∀ c ∈ [(0x00 : BitVec 5), 0x13, 0x1F], decoded { Port.quiet with cmdOp := c } = none := by decide
theorem test_decode_codes_steps : [stepModeOfCode 0, stepModeOfCode 1, stepModeOfCode 2, stepModeOfCode 3] =
    [.steps14, .steps28, .steps128, .unknown] := by decide
theorem test_decode_excess_payload :
    decoded { Port.quiet with cmdOp := 0x01, aN := 1, aPayload := [0x7A, 0xFF] } =
      some (.compose 0 [0x7A] false) := by
  decide
theorem test_decode_undriven_bytes :
    decoded { Port.quiet with cmdOp := 0x0E, rx := [0x03], rxLen := 2 } = some (.process [0x03, 0xAA]) := by decide

/-! ## Decoding: inbound frames (30_encoding.md R95 to R98; the frames of 95_test_vectors.md 2.11 to 2.17) -/

theorem test_decode_rxStatusTrackOff :
    decoded (Port.ofFrame [0x07, 0x00, 0x40, 0x00, 0x61, 0x00, 0x61]) = some .rxStatusTrackOff := by decide
theorem test_decode_rxStatusTrackOn :
    decoded (Port.ofFrame [0x07, 0x00, 0x40, 0x00, 0x61, 0x01, 0x60]) = some .rxStatusTrackOn := by decide
theorem test_decode_rxStatusProgMode :
    decoded (Port.ofFrame [0x07, 0x00, 0x40, 0x00, 0x61, 0x02, 0x63]) = some .rxStatusProgMode := by decide
theorem test_decode_rxStatusCvNack :
    decoded (Port.ofFrame [0x07, 0x00, 0x40, 0x00, 0x61, 0x13, 0x72]) = some .rxStatusCvNack := by decide
theorem test_decode_rxStatusOther :
    decoded (Port.ofFrame [0x07, 0x00, 0x40, 0x00, 0x61, 0x12, 0x73]) = some (.rxStatusOther 0x12) := by decide
theorem test_decode_rxPowerTrackOn :
    decoded (Port.ofFrame [0x08, 0x00, 0x40, 0x00, 0x62, 0x22, 0x00, 0x40]) = some .rxPowerTrackOn := by decide
theorem test_decode_rxPowerProgMode :
    decoded (Port.ofFrame [0x08, 0x00, 0x40, 0x00, 0x62, 0x22, 0x20, 0x60]) = some .rxPowerProgMode := by decide
theorem test_decode_rxPowerOther :
    decoded (Port.ofFrame [0x08, 0x00, 0x40, 0x00, 0x62, 0x22, 0x21, 0x61]) = some (.rxPowerOther 0x21) := by decide
theorem test_decode_rxCvResult :
    decoded (Port.ofFrame [0x0A, 0x00, 0x40, 0x00, 0x64, 0x14, 0x00, 0x04, 0x2A, 0x5E]) =
      some (.rxCvResult 0x0004 0x2A) := by
  decide
theorem test_decode_rxLocoInfo :
    decoded (Port.ofFrame [0x0E, 0x00, 0x40, 0x00, 0xEF, 0xC3, 0xE8, 0x0C, 0xFF, 0x1A, 0x81, 0x00, 0xFF, 0x53]) =
      some (.rxLocoInfo 0xC3E8 0b100 true 0x7F true true 0xFF0081A) := by
  decide
theorem test_decode_rxXbusOther :
    decoded (Port.ofFrame [0x05, 0x00, 0x40, 0x00, 0x99]) = some (.rxXbusOther 0x99) := by decide
theorem test_decode_rxGroupUnrec :
    decoded (Port.ofFrame [0x04, 0x00, 0x12, 0x00]) = some (.rxGroupUnrec 0x12) := by decide
theorem test_decode_group_rows :
    [(0x10 : Byte), 0x1A, 0x30, 0x50, 0x51, 0x60, 0x61, 0x70, 0x71, 0x80, 0x81, 0x82, 0x84, 0x85, 0x88, 0x89, 0xA0,
      0xA1, 0xA2, 0xA3, 0xA4].map (fun g => decoded (Port.ofFrame [0x03, 0x00, g])) =
    ([.rxGroupAck10, .rxGroupAck1A, .rxGroupAck30, .rxGroupAck50, .rxGroupAck51, .rxGroupAck60, .rxGroupAck61,
      .rxGroupAck70, .rxGroupAck71, .rxGroupAck80, .rxGroupAck81, .rxGroupAck82, .rxGroupAck84, .rxGroupAck85,
      .rxGroupAck88, .rxGroupAck89, .rxGroupAckA0, .rxGroupAckA1, .rxGroupAckA2, .rxGroupAckA3, .rxGroupAckA4] :
      List Instr).map some := by decide
theorem test_decode_table_rows :
    decodeTableWord 56 0x00004000610000 = some .rxStatusTrackOff ∧
    decodeTableWord 56 0x00004000620000 = some .rxPowerTrackOn ∧
    decodeTableWord 56 0x00004000000000 = some (.rxXbusOther 0) ∧
    decodeTableWord 56 0x00001A00000000 = some .rxGroupAck1A := by decide

/-! ## Single steps (95_test_vectors.md) -/

/-- A state with everything at a value that no reply of these tests gives. -/
def start : State :=
  { State.reset with
    loco := { addr := 0x1234, speed := 77, steps := .steps14, dir := false, light := false, func := 0x5555555,
              occ := true }
    cv := { num := 0x0777, val := 0x55 }
    lib := { addr := 7, name := #v[0, 1, 2, 3, 4, 5, 6, 7, 8, 9], index := 3, count := 4 }
    draws := 6 }

/-- `start` with a frame pending, the request GET_STATUS (V-CO1). -/
def pending : State :=
  { start with
    txbuf := [(0, 0x07), (1, 0x00), (2, 0x40), (3, 0x00), (4, 0x21), (5, 0x24), (6, 0x05)]
    txLen := 7
    txReady := true }

/-- The next state, if there is one. -/
def after : Result → Option State
  | .next t => some t
  | .fault _ => none
  | .refused _ => none

/-- The pending frame of a next state that answers OK. -/
def frameOf (o : Result) : Option (List Byte) :=
  match after o with
  | none => none
  | some t =>
    if t.response = some (.status .ok) ∧ t.txReady = true then some ((t.txbuf.take t.txLen.toNat).map Prod.snd)
    else none

/-- The next state is `s` with an answer and nothing else changed. -/
def answers (s : State) (o : Result) (r : Response) : Bool := after o = some { s with response := some r }

theorem test_compose_VCO2 :
    frameOf (exec (.compose 0x40 [0x7A] true) start) = some [0x06, 0x00, 0x40, 0x00, 0x7A, 0x7A] := by decide
theorem test_getStatus_VRQ1 :
    frameOf (exec .getStatus start) = some [0x07, 0x00, 0x40, 0x00, 0x21, 0x24, 0x05] := by decide
theorem test_trackOff_VRQ2 :
    frameOf (exec .trackOff start) = some [0x07, 0x00, 0x40, 0x00, 0x21, 0x80, 0xA1] := by decide
theorem test_trackOn_VRQ3 : frameOf (exec .trackOn start) = some [0x07, 0x00, 0x40, 0x00, 0x21, 0x81, 0xA0] := by decide
theorem test_getFwVersion_VRQ4 :
    frameOf (exec .getFwVersion start) = some [0x07, 0x00, 0x40, 0x00, 0xF1, 0x0A, 0xFB] := by decide
theorem test_setBcast_VBC2 :
    frameOf (exec (.setBcast 0x00010203) start) = some [0x08, 0x00, 0x50, 0x00, 0x03, 0x02, 0x01, 0x00] := by decide
theorem test_getLocoInfo_VLI2 :
    frameOf (exec (.getLocoInfo 127) start) = some [0x09, 0x00, 0x40, 0x00, 0xE3, 0xF0, 0x00, 0x7F, 0x6C] := by decide
theorem test_getLocoInfo_VLI3 :
    frameOf (exec (.getLocoInfo 128) start) = some [0x09, 0x00, 0x40, 0x00, 0xE3, 0xF0, 0xC0, 0x80, 0x53] := by decide
theorem test_setLocoDrive_VDR1 :
    frameOf (exec (.setLocoDrive 3 .steps28 15 true) start) =
      some [0x0A, 0x00, 0x40, 0x00, 0xE4, 0x12, 0x00, 0x03, 0x89, 0x7C] := by
  decide
theorem test_setLocoDrive_VDR7 :
    frameOf (exec (.setLocoDrive 3 .steps14 126 false) start) =
      some [0x0A, 0x00, 0x40, 0x00, 0xE4, 0x10, 0x00, 0x03, 0x7F, 0x88] := by
  decide
theorem test_setLocoFunc_VFN4 :
    frameOf (exec (.setLocoFunc 3 63 .toggle) start) =
      some [0x0A, 0x00, 0x40, 0x00, 0xE4, 0xF8, 0x00, 0x03, 0xBF, 0xA0] := by
  decide
theorem test_setTurnout_VTO4 :
    frameOf (exec (.setTurnout 0x0123 .forward) start) =
      some [0x09, 0x00, 0x40, 0x00, 0x53, 0x01, 0x23, 0x89, 0xF8] := by
  decide
theorem test_cvRead_VCV3 :
    frameOf (exec (.cvRead 0) start) = some [0x09, 0x00, 0x40, 0x00, 0x23, 0x11, 0xFF, 0xFF, 0x32] := by decide
theorem test_cvWrite_VCV9 :
    frameOf (exec (.cvWrite 257 255) start) = some [0x0A, 0x00, 0x40, 0x00, 0x24, 0x12, 0x01, 0x00, 0xFF, 0xC8] := by
  decide
theorem test_compose_VCO9 :
    answers start (exec (.compose 0x40 (List.replicate 26 0x01) true) start) (.status .eOverflow) = true := by decide
theorem test_setLocoFunc_VFN5 :
    answers pending (exec (.setLocoFunc 3 1 .reserved) pending) (.status .eOperand) = true := by decide
theorem test_setTurnout_VTO7 :
    answers pending (exec (.setTurnout 5 .reserved) pending) (.status .eOperand) = true := by decide
theorem test_pull_VPL2 :
    after (exec .pull pending) =
      some { pending with
        txReady := false
        response := some (.pull .ok true 7 [0x07, 0x00, 0x40, 0x00, 0x21, 0x24, 0x05]) } := by decide
theorem test_pull_VPL1 : answers start (exec .pull start) (.pull .ok false 0 []) = true := by decide
theorem test_rdReady_VRY2 : answers pending (exec .rdReady pending) (.ready .ok true) = true := by decide
theorem test_rdLoco : answers start (exec .rdLoco start) (.loco .ok start.loco) = true := by decide
theorem test_rdCv : answers start (exec .rdCv start) (.cv .ok { num := 0x0777, val := 0x55 }) = true := by decide
theorem test_rdLib : answers start (exec .rdLib start) (.lib .ok start.lib) = true := by decide

/-- PROCESS of a whole buffer, as its decoded row and as PROCESS itself. -/
def processed (rx : List Byte) (s : State) : List Result := [exec (decodeProcess rx) s, exec (.process rx) s]

theorem test_status_VRS8 :
    ∀ o ∈ processed [0x00, 0xFF, 0x40, 0xFF, 0x61, 0x01] start, answers start o (.process .ok .trackOn) = true := by
  decide
theorem test_status_VRS7 :
    ∀ o ∈ processed [0x07, 0x00, 0x40, 0x00, 0x61, 0x12, 0x73] start,
      answers start o (.process .ok .unknown) = true := by decide
theorem test_power_VRP6 :
    ∀ o ∈ processed [0x08, 0x00, 0x40, 0x00, 0x62, 0x22, 0x21, 0x61] start,
      answers start o (.process .ok .trackOff) = true := by decide
theorem test_power_VRP8 :
    ∀ o ∈ processed [0x08, 0x00, 0x40, 0x00, 0x62, 0x99, 0x00, 0xFB] start,
      answers start o (.process .ok .trackOn) = true := by decide
theorem test_cvResult_VRC6 :
    ∀ o ∈ processed [0x09, 0x00, 0x40, 0x00, 0x64, 0x14, 0x00, 0x04, 0x2A] start,
      answers { start with cv := { num := 5, val := 42 } } o (.process .ok .cvResult) = true := by decide
theorem test_cvResult_VRC2 :
    ∀ o ∈ processed [0x0A, 0x00, 0x40, 0x00, 0x64, 0x14, 0xFF, 0xFF, 0x01, 0x71] start,
      answers { start with cv := { num := 0, val := 1 } } o (.process .ok .cvResult) = true := by decide
theorem test_locoInfo_VRL2 :
    ∀ o ∈ processed [0x0E, 0x00, 0x40, 0x00, 0xEF, 0xC3, 0xE8, 0x0C, 0xFF, 0x1A, 0x81, 0x00, 0xFF, 0x53] start,
      answers (start.setLoco ⟨1000, 127, .steps128, true, true, 0xFF0081A, true⟩) o
        (.process .ok .locoInfo) = true := by
  decide
theorem test_locoInfo_VRL16 :
    ∀ o ∈ processed [0x0D, 0x00, 0x40, 0x00, 0xEF, 0x00, 0x03, 0x02, 0x89, 0x10, 0x00, 0x00, 0x00] start,
      answers (start.setLoco ⟨3, 15, .steps28, true, true, 0, false⟩) o (.process .ok .locoInfo) = true := by decide
theorem test_locoInfo_VRL5 :
    ∀ o ∈ processed [0x0E, 0x00, 0x40, 0x00, 0xEF, 0x40, 0x00, 0x01, 0x85, 0xF0, 0x01, 0x02, 0x04, 0xDC] start,
      (after o).map (fun t => (t.loco.addr, t.loco.steps, t.loco.occ)) = some (0x4000, .unknown, false) ∧
      (after o).map (fun t => (t.loco.dir, t.loco.light, t.loco.func)) = some (true, true, 0x0402010) := by decide
theorem test_xbusOther_VRO4 :
    ∀ o ∈ processed [0x05, 0x00, 0x40, 0x00, 0x99] start, answers start o (.process .ok .unknown) = true := by decide
theorem test_group_VRG7 :
    ∀ o ∈ processed [0x03, 0x00, 0xA4] start, answers start o (.process .ok .noEvent) = true := by decide
theorem test_group_VRG8 :
    ∀ o ∈ processed [0x04, 0x00, 0x41, 0x00] start, answers start o (.process .rxFail .noEvent) = true := by decide
theorem test_truncated_VRT8 :
    ∀ o ∈ processed [0x0C, 0x00, 0x40, 0x00, 0xEF, 0x00, 0x03, 0x02, 0x89, 0x10, 0x00, 0x00] start,
      answers start o (.process .rxTrunc .noEvent) = true := by decide
theorem test_truncated_VRT3 :
    ∀ o ∈ processed [0x03, 0x00, 0x40] start, answers start o (.process .rxTrunc .noEvent) = true := by decide

/-! A whole step. -/

theorem test_step_VER3 :
    after (step { pending with inbox := [.command { Port.quiet with cmdOp := 0x1F }] }) =
      some { pending with draws := 7, response := some (.status .eCmd) } := by decide
theorem test_step_from_reset :
    (after (step (State.reset.withFetchWord 8 0x02))).map (fun t => (t.txLen, t.txReady, t.response)) =
      some (7, true, some (.status .ok)) := by decide

/-! Operand transforms. -/

theorem test_toWire_VAD :
    [(0 : BitVec 14), 3, 127, 128, 1000, 9999, 16383].map toWire =
      [0x0000, 0x0003, 0x007F, 0xC080, 0xC3E8, 0xE70F, 0xFFFF] := by decide
theorem test_fromWire_VAD :
    [(0x0080 : BitVec 16), 0x03E8, 0x4000, 0x8005, 0xBFFF, 0xC000, 0xC005, 0xC07F, 0xFFFF].map fromWire =
      [0x0080, 0x03E8, 0x4000, 0x8005, 0xBFFF, 0x0000, 0x0005, 0x007F, 0x3FFF] := by decide

/-! ## Witnesses: every statement with hypotheses has inputs that meet them, at the edges of their ranges -/

/-- `s` with one command to come, and a reset after it. -/
def given (s : State) (p : Port) : State := { s with inbox := [.command p, .reset] }

/-- A port with only a command code. -/
def code (c : BitVec 5) : Port := { Port.quiet with cmdOp := c }

/-- What an instruction that answers leaves. -/
def next (i : Instr) (s : State) : State := (after (exec i s)).getD s

theorem test_witness_start_ok : start.cfg.Ok := by decide

theorem test_witness_StepRunsDecodedCommand :
    (given start (code 0x02)).inbox = .command (code 0x02) :: [.reset] ∧
    decode (Config.undrivenByte (given start (code 0x02)).draws) (code 0x02) = .ok .getStatus := ⟨rfl, rfl⟩

theorem test_witness_StepRunsDecodedCommand_undriven :
    decode (Config.undrivenByte 6) { code 0x0E with rx := [0x04], rxLen := 2 } =
      .ok (.process [0x04, Config.undrivenByte 6 1]) := rfl

theorem test_witness_UndefinedCommandAnswersECmd :
    (∀ c ∈ [(0x00 : BitVec 5), 0x13, 0x1F], (given start (code c)).inbox = .command (code c) :: [.reset] ∧
      ((code c).cmdOp = 0 ∨ 0x13 ≤ (code c).cmdOp.toNat)) ∧
    (∀ c ∈ [(0x01 : BitVec 5), 0x12], ¬ ((code c).cmdOp = 0 ∨ 0x13 ≤ (code c).cmdOp.toNat)) := by decide

theorem test_witness_NoCommandChangesNothing : pending.inbox = [] := by decide

theorem test_witness_ResetStepClearsPending :
    ({ pending with inbox := [.reset] } : State).inbox = .reset :: [] := by decide

theorem test_witness_DecodeOfEncode :
    (Instr.setLocoDrive 0x3FFF .unknown 127 true).wellFormed ∧ (Instr.compose 0xFF [0x00, 0xFF] true).wellFormed ∧
    (Instr.process []).wellFormed ∧ (Instr.rxGroupUnrec 0xFF).wellFormed ∧ (Instr.rxStatusOther 0x12).wellFormed ∧
    (Instr.rxPowerOther 0x21).wellFormed ∧ (Instr.rxXbusOther 0x63).wellFormed := by decide

theorem test_witness_DecodedIsWellFormed :
    decode fill (Port.ofFrame [0x04, 0x00, 0x12, 0x00]) = .ok (.rxGroupUnrec 0x12) := rfl

/-- Two ports that differ in every operand that GET_STATUS does not list. -/
theorem test_witness_UnlistedPortsIgnored_none :
    let p := code 0x02
    let q : Port := { code 0x02 with aGroup := 1, aN := 2, aPayload := [3], aFlags := 4, aAddr := 5, aCv := 6, rx := [7] }
    q ≠ p ∧ q.cmdOp = p.cmdOp ∧
    p.cmdOp ∉ [(0x01 : BitVec 5), 0x06, 0x07, 0x08, 0x09, 0x0A, 0x0B, 0x0C, 0x0E] := by decide

/-- For each command with operands, two ports that differ and agree on what it lists. -/
theorem test_witness_UnlistedPortsIgnored :
    ∀ c ∈ [(0x01 : BitVec 5), 0x06, 0x07, 0x08, 0x09, 0x0A, 0x0B, 0x0C, 0x0E],
      let p : Port := code c
      let q : Port :=
        if c = 0x01 then { code c with rx := [1] } else { code c with aGroup := 1 }
      q ≠ p ∧ q.cmdOp = p.cmdOp ∧
      (p.cmdOp = 0x01 → q.aGroup = p.aGroup ∧ q.aN = p.aN ∧ q.aPayload = p.aPayload ∧ q.aCs = p.aCs) ∧
      (p.cmdOp = 0x06 → q.aFlags = p.aFlags) ∧
      (p.cmdOp = 0x07 → q.aAddr = p.aAddr) ∧
      (p.cmdOp = 0x08 → q.aAddr = p.aAddr ∧ q.aSteps = p.aSteps ∧ q.aSpeed = p.aSpeed ∧ q.aDir = p.aDir) ∧
      (p.cmdOp = 0x09 → q.aAddr = p.aAddr ∧ q.aFn = p.aFn ∧ q.aMode = p.aMode) ∧
      (p.cmdOp = 0x0A → q.aTaddr = p.aTaddr ∧ q.aTdir = p.aTdir) ∧
      (p.cmdOp = 0x0B → q.aCv = p.aCv) ∧
      (p.cmdOp = 0x0C → q.aCv = p.aCv ∧ q.aVal = p.aVal) ∧
      (p.cmdOp = 0x0E → q.rx = p.rx ∧ q.rxLen = p.rxLen) := by decide

theorem test_witness_RxLenIsBelieved :
    let p : Port := { code 0x0E with rx := [0x04, 0x00], rxLen := 4 }
    p.cmdOp = 0x0E ∧ (1 < p.rxLen.toNat ∧ 1 < p.rx.length) ∧ (2 < p.rxLen.toNat ∧ p.rx.length ≤ 2) := by decide

theorem test_witness_ComposeBuildsFrame :
    ((code 0x01).cmdOp = 0x01 ∧ (code 0x01).aN.toNat ≤ (code 0x01).aPayload.length) ∧
    4 + (List.replicate 26 (0 : Byte)).length ≤ start.cfg.outbufSize.toNat ∧
    4 + ((List.replicate 24 (0 : Byte)).length + 1) + 1 ≤ start.cfg.outbufSize.toNat := by decide

theorem test_witness_ChecksumIsXorOfPayload :
    4 + ((List.replicate 24 (0 : Byte)).length + 1) + 1 ≤ start.cfg.outbufSize.toNat := by decide

theorem test_witness_ComposeRefusals :
    start.cfg.outbufSize.toNat < 4 + (List.replicate 27 (0 : Byte)).length ∧
    start.cfg.outbufSize.toNat < 4 + ((List.replicate 25 (0 : Byte)).length + 1) + 1 ∧
    after (exec (.compose 0x40 [] true) start) = some (next (.compose 0x40 [] true) start) := by decide

/-- The frame of `pending`. -/
def pendingFrame : List Byte := [0x07, 0x00, 0x40, 0x00, 0x21, 0x24, 0x05]

theorem test_witness_PullHandsOverOnce :
    (code 0x0D).cmdOp = 0x0D ∧
    (pending.txReady = true ∧ pending.txLen.toNat = pendingFrame.length ∧
      pendingFrame.length ≤ pending.cfg.outbufSize.toNat ∧
      ∀ i, i < pendingFrame.length → Memory.read pending.txbuf i = pendingFrame[i]?) ∧
    start.txReady = false := by decide

/-- A state no run reaches: more bytes pending than the buffer has. -/
def overlong : State :=
  { pending with
    txbuf := (List.range 30).map (fun i => (i, 0x11))
    txLen := 31 }

theorem test_witness_PullOutOfRangeFaults :
    overlong.txReady = true ∧ overlong.cfg.outbufSize.toNat < overlong.txLen.toNat ∧
    ∀ i, i < overlong.cfg.outbufSize.toNat → (Memory.read overlong.txbuf i).isSome := by decide

/-- A short frame after a long one (PG2): the case in which bytes of the first stay behind the second. -/
theorem test_witness_OnlySecondFrameRetrievable :
    (composes (.cvWrite 5 42) = true ∧ composes .getStatus = true ∧
      exec (.cvWrite 5 42) start = .next (next (.cvWrite 5 42) start) ∧
      (next (.cvWrite 5 42) start).response = some (.status .ok) ∧
      exec .getStatus (next (.cvWrite 5 42) start) = .next (next .getStatus (next (.cvWrite 5 42) start)) ∧
      (next .getStatus (next (.cvWrite 5 42) start)).response = some (.status .ok)) ∧
    (overlong.cfg = start.cfg ∧ overlong.txbuf ≠ start.txbuf) :=
  ⟨⟨rfl, rfl, rfl, rfl, rfl, rfl⟩, by decide⟩

theorem test_witness_ReadyFlagLife :
    (exec .trackOn start = .next (next .trackOn start) ∧ composes .trackOn = true ∧
      (next .trackOn start).response = some (.status .ok)) ∧
    (exec (.compose 0 [] true) pending = .next (next (.compose 0 [] true) pending) ∧
      composes (.compose 0 [] true) = true ∧
      (next (.compose 0 [] true) pending).response ≠ some (.status .ok)) ∧
    exec .pull pending = .next (next .pull pending) ∧
    (exec .rdReady pending = .next (next .rdReady pending) ∧ composes .rdReady = false ∧
      Instr.rdReady ≠ .pull) :=
  ⟨⟨rfl, rfl, rfl⟩, ⟨rfl, rfl, by decide⟩, rfl, ⟨rfl, rfl, by decide⟩⟩

theorem test_witness_start_inv : start.Inv := ⟨by decide, by decide, by decide, .inl (by decide)⟩

theorem test_witness_pending_inv : pending.Inv :=
  ⟨by decide, by decide, by decide,
    .inr ⟨by decide, by decide, by decide, by decide, by decide, by decide⟩⟩

theorem test_witness_ComposeIdempotent :
    composes .getStatus = true ∧ exec .getStatus pending = .next (next .getStatus pending) := ⟨rfl, rfl⟩

theorem test_witness_ConstantRequests :
    start.cfg.Ok ∧ ∀ c ∈ [(0x02 : BitVec 5), 0x03, 0x04, 0x05], (code c).cmdOp = c := by decide

theorem test_witness_SetBcastFrame :
    start.cfg.Ok ∧ ∀ c ∈ [(0x06 : BitVec 5)], (code c).cmdOp = c := by decide

theorem test_witness_GetLocoInfoFrame :
    start.cfg.Ok ∧ ∀ c ∈ [(0x07 : BitVec 5)], (code c).cmdOp = c := by decide

theorem test_witness_CvFrames :
    start.cfg.Ok ∧ ∀ c ∈ [(0x0B : BitVec 5), 0x0C], (code c).cmdOp = c := by decide

theorem test_witness_AccessorsAnswerAndWriteNothing :
    start.cfg.Ok ∧ ∀ c ∈ [(0x0F : BitVec 5), 0x10, 0x11, 0x12], (code c).cmdOp = c := by decide

theorem test_witness_SetLocoCommandCodes :
    start.cfg.Ok ∧ ∀ c ∈ [(0x08 : BitVec 5), 0x09, 0x0A], (code c).cmdOp = c := by decide

theorem test_witness_SetLocoDriveFrameOrRefusal :
    start.cfg.Ok ∧ 28 < (29 : BitVec 7).toNat ∧ ¬ 28 < (28 : BitVec 7).toNat ∧ (28 : BitVec 7).toNat < 29 ∧
    (126 : BitVec 7) ≠ 127 := by decide

theorem test_witness_SetLocoFuncFrameOrRefusal :
    start.cfg.Ok ∧ FuncMode.off ≠ .reserved ∧ FuncMode.on ≠ .reserved ∧ FuncMode.toggle ≠ .reserved := by decide

theorem test_witness_SetTurnoutFrameOrRefusal :
    start.cfg.Ok ∧ ∀ q ∈ [(TurnoutDir.off, (0x80 : Byte)), (.turn, 0x88), (.forward, 0x89)],
      q ∈ [(TurnoutDir.off, (0x80 : Byte)), (.turn, 0x88), (.forward, 0x89)] := by decide

theorem test_witness_NamedOperationsExpandToCompose :
    (packSpeed start.cfg .steps28 15 = .ok 9 ∧ stepOpcode .steps28 = some 0x12) ∧
    funcByte .on 1 = some 0x41 ∧ turnoutByte .forward = some 0x89 := ⟨⟨rfl, rfl⟩, rfl, rfl⟩

theorem test_witness_SpeedRoundTrip :
    start.cfg.Ok ∧ packSpeed start.cfg .steps14 0 = .ok 0 ∧ packSpeed start.cfg .steps14 126 = .ok 127 ∧
    packSpeed start.cfg .steps28 0 = .ok 0 ∧ packSpeed start.cfg .steps28 28 = .ok 0x1F ∧
    packSpeed start.cfg .steps128 127 = .ok 127 := ⟨by decide, rfl, rfl, rfl, rfl, rfl⟩

theorem test_witness_ShortBuffersAreTruncated :
    (∀ rx ∈ [[], [0x04, 0x00], [0x04, 0x00, 0x40, 0x00], [0x05, 0x00, 0x40, 0x00, 0x61],
        [0x06, 0x00, 0x40, 0x00, 0x62, 0x22], [0x08, 0x00, 0x40, 0x00, 0x64, 0x14, 0x00, 0x04],
        [0x0C, 0x00, 0x40, 0x00, 0xEF, 0x00, 0x03, 0x02, 0x89, 0x10, 0x00, 0x00]], truncated rx = true) ∧
    (truncated [0x03, 0x00, 0xA4] = false ∧ truncated [0x05, 0x00, 0x40, 0x00, 0x99] = false) ∧
    after (exec (.process [0x03, 0x00, 0xA4]) start) = some (next (.process [0x03, 0x00, 0xA4]) start) := by decide

theorem test_witness_StatusReplyEvents :
    (0x12 : Byte) ∉ [(0x00 : Byte), 0x01, 0x02, 0x13] ∧
    ∀ key ∈ [(0x00 : Byte), 0x01, 0x02, 0x13, 0x12, 0xFF],
      let rx : List Byte := [0x00, 0x00, 0x40, 0x00, 0x61, key]
      6 ≤ rx.length ∧ rx[2]? = some 0x40 ∧ rx[4]? = some 0x61 ∧ rx[5]? = some key := by decide

theorem test_witness_StatusReplyEvents_short :
    let rx : List Byte := [0x05, 0x00, 0x40, 0x00, 0x61]
    rx.length = 5 ∧ rx[2]? = some 0x40 ∧ rx[4]? = some 0x61 := by decide

theorem test_witness_PowerReplyEvents :
    (0x21 : Byte) ∉ [(0x00 : Byte), 0x20] ∧
    ∀ key ∈ [(0x00 : Byte), 0x20, 0x21],
      let rx : List Byte := [0x00, 0x00, 0x40, 0x00, 0x62, 0x22, key]
      7 ≤ rx.length ∧ rx[2]? = some 0x40 ∧ rx[4]? = some 0x62 ∧ rx[6]? = some key := by decide

theorem test_witness_CvResultWritesCache :
    let rx : List Byte := [0x00, 0x00, 0x40, 0x00, 0x64, 0x14, 0xFF, 0xFF, 0x01]
    9 ≤ rx.length ∧ rx[2]? = some 0x40 ∧ rx[4]? = some 0x64 ∧ rx[6]? = some 0xFF ∧ rx[7]? = some 0xFF ∧
    rx[8]? = some 0x01 := by decide

theorem test_witness_LocoInfoFields :
    let rx : List Byte := [0x0D, 0x00, 0x40, 0x00, 0xEF, 0xC3, 0xE8, 0x0C, 0xFF, 0x1A, 0x81, 0x00, 0xFF]
    13 ≤ rx.length ∧ rx[2]? = some 0x40 ∧ rx[4]? = some 0xEF ∧ rx[5]? = some 0xC3 ∧ rx[6]? = some 0xE8 ∧
    rx[7]? = some 0x0C ∧ rx[8]? = some 0xFF ∧ rx[9]? = some 0x1A ∧ rx[10]? = some 0x81 ∧ rx[11]? = some 0x00 ∧
    rx[12]? = some 0xFF := by decide

theorem test_witness_LocoInfoSpeed :
    (31 : BitVec 7).toNat < 32 ∧ ¬ (32 : BitVec 7).toNat < 32 ∧ 32 ≤ (32 : BitVec 7).toNat ∧
    0b001#3 ∈ [0b001#3, 0b011#3, 0b101#3, 0b110#3, 0b111#3] := by decide

theorem test_witness_OtherSubOpcodesAreUnknown :
    let rx : List Byte := [0x05, 0x00, 0x40, 0x00, 0x63]
    5 ≤ rx.length ∧ rx[2]? = some 0x40 ∧ rx[4]? = some 0x63 ∧ (0x63 : Byte) ∉ [(0x61 : Byte), 0x62, 0x64, 0xEF] := by
  decide

/-- `start` with another set of recognised groups. -/
def recognising (gs : List Byte) : State := { start with cfg := { start.cfg with recognised := gs } }

theorem test_witness_RecognisedGroupsAcknowledged :
    ((0x10, .rxGroupAck10) ∈ groupRows ∧ (0x10 : Byte) ∈ start.cfg.recognised) ∧
    (0x12 : Byte) ∈ (recognising [0x12]).cfg.recognised ∧
    (let rx : List Byte := [0x03, 0x00, 0xA4]
     3 ≤ rx.length ∧ rx[2]? = some 0xA4 ∧ (0xA4 : Byte) ≠ 0x40 ∧ 0xA4 ∈ start.cfg.recognised) := by decide

theorem test_witness_UnrecognisedGroupsFail :
    ((0x10 : Byte) ∉ (recognising []).cfg.recognised ∧ (0x10 : Byte) ≠ 0x40) ∧
    (∀ g ∈ [(0x12 : Byte), 0x3F, 0x41],
      let rx : List Byte := [0x03, 0x00, g]
      3 ≤ rx.length ∧ rx[2]? = some g ∧ g ≠ 0x40 ∧ g ∉ start.cfg.recognised) := by decide

theorem test_witness_DefaultGroupRows :
    start.cfg = Config.default ∧ (0x41 : Byte) ≠ 0x40 ∧ (0x3F : Byte) ≠ 0x40 ∧ (0xA4 : Byte) ≠ 0x40 := by decide

theorem test_witness_ExcessBytesIgnored :
    decodeFrame [0x03, 0x00, 0xA4] = some .rxGroupAckA4 ∧
    decodeFrame [0x09, 0x00, 0x40, 0x00, 0x64, 0x14, 0x00, 0x04, 0x2A] = some (.rxCvResult 4 42) := by decide

theorem test_witness_ReservedBytes :
    (composes .getStatus = true ∧ exec .getStatus start = .next (next .getStatus start) ∧
      (next .getStatus start).response = some (.status .ok)) ∧
    ((0 ∈ [0, 1, 3]) ∧ (1 ∈ [0, 1, 3]) ∧ (3 ∈ [0, 1, 3])) := ⟨⟨rfl, rfl, rfl⟩, by decide⟩

theorem test_witness_UnreadFieldsIgnored :
    (∀ sub ∈ [(0x62 : Byte), 0x64],
      let rx : List Byte := [0x09, 0x00, 0x40, 0x00, sub, 0x14, 0x00, 0x04, 0x2A]
      rx[2]? = some 0x40 ∧ (rx[4]? = some 0x62 ∨ rx[4]? = some 0x64)) ∧
    (let rx : List Byte := [0x0D, 0x00, 0x40, 0x00, 0xEF, 0x00, 0x03, 0x02, 0x89, 0x10, 0x00, 0x00, 0x00]
     rx[2]? = some 0x40 ∧ rx[4]? = some 0xEF ∧
     (rx[7]? = some 0x02 ∧ (0xF2 : Byte).extractLsb' 0 4 = (0x02 : Byte).extractLsb' 0 4) ∧
     (rx[9]? = some 0x10 ∧ (0xF0 : Byte).extractLsb' 0 5 = (0x10 : Byte).extractLsb' 0 5)) := by decide

/-- The premises of the round trip on a drive command from `start`, with the loco-info buffer of that address, mode
field and speed byte. -/
def drivePremises (addr : BitVec 14) (steps : StepMode) (speed : BitVec 7) (dir : Bool) (b5 b6 b7 b8 : Byte) : Prop :=
  let t := next (.setLocoDrive addr steps speed dir) start
  let rx : List Byte := [0x0D, 0x00, 0x40, 0x00, 0xEF, b5, b6, b7, b8, 0x10, 0x00, 0x00, 0x00]
  exec (.setLocoDrive addr steps speed dir) start = .next t ∧
  (t.response = some (.status .ok) ∧ 13 ≤ rx.length ∧ rx[2]? = some 0x40 ∧ rx[4]? = some 0xEF ∧
    rx[5]? = Memory.read t.txbuf 6 ∧ rx[6]? = Memory.read t.txbuf 7 ∧ rx[7]? = some b7 ∧
    rx[8]? = Memory.read t.txbuf 8 ∧
    (steps, b7.toNat % 8) ∈ [(StepMode.steps14, 0), (.steps28, 2), (.steps128, 4)])

/-- Every mode at the edges of its accepted speeds, with a short and a long address. -/
theorem test_witness_DriveInfoRoundTrip :
    start.cfg.Ok ∧
    drivePremises 3 .steps14 0 true 0x00 0x03 0x00 0x80 ∧
    drivePremises 3 .steps14 126 false 0x00 0x03 0x08 0x7F ∧
    drivePremises 1000 .steps28 15 true 0xC3 0xE8 0x02 0x89 ∧
    drivePremises 3 .steps28 28 true 0x00 0x03 0x0A 0x9F ∧
    drivePremises 128 .steps128 1 true 0xC0 0x80 0x04 0x81 ∧
    drivePremises 1000 .steps128 127 true 0xC3 0xE8 0x0C 0xFF :=
  ⟨by decide, ⟨rfl, by decide⟩, ⟨rfl, by decide⟩, ⟨rfl, by decide⟩, ⟨rfl, by decide⟩, ⟨rfl, by decide⟩,
    ⟨rfl, by decide⟩⟩

theorem test_witness_CvWriteResultRoundTrip :
    start.cfg.Ok ∧ exec (.cvWrite 0 7) start = .next (next (.cvWrite 0 7) start) ∧
    (let t := next (.cvWrite 0 7) start
     let rx : List Byte := [0x09, 0x00, 0x40, 0x00, 0x64, 0x14, 0xFF, 0xFF, 0x07]
     9 ≤ rx.length ∧ rx[2]? = some 0x40 ∧ rx[4]? = some 0x64 ∧ rx[6]? = Memory.read t.txbuf 6 ∧
     rx[7]? = Memory.read t.txbuf 7 ∧ rx[8]? = Memory.read t.txbuf 8) := ⟨by decide, rfl, by decide⟩

theorem test_witness_RefusalWritesNothing :
    (exec (.process [0x04]) pending = .next (next (.process [0x04]) pending) ∧
      (next (.process [0x04]) pending).response = some (.process .rxTrunc .noEvent) ∧
      responseStatus (.process .rxTrunc .noEvent) ≠ .ok) ∧
    (let s := given pending { code 0x08 with aSteps := 3 }
     ∃ t, step s = .next t ∧ t.response = some (.status .eSteps) ∧ responseStatus (.status .eSteps) ≠ .ok) :=
  ⟨⟨rfl, rfl, by decide⟩, _, rfl, rfl, by decide⟩

theorem test_witness_StatusesPerCommand :
    start.cfg.Ok ∧ exec (.setTurnout 5 .reserved) start = .next (next (.setTurnout 5 .reserved) start) ∧
    exec (.rxGroupUnrec 0x12) start = .next (next (.rxGroupUnrec 0x12) start) := ⟨by decide, rfl, rfl⟩

theorem test_witness_WriteMatrix :
    (exec .trackOn start = .next (next .trackOn start) ∧ hostSide .trackOn = true ∧
      (next .trackOn start).response ≠ some (.process .ok .locoInfo) ∧
      (next .trackOn start).response ≠ some (.process .ok .cvResult)) ∧
    (exec (.rxCvResult 4 42) start = .next (next (.rxCvResult 4 42) start) ∧ hostSide (.rxCvResult 4 42) = false) :=
  ⟨⟨rfl, rfl, by decide, by decide⟩, rfl, rfl⟩

theorem test_witness_HalvesShareNoState :
    (hostSide (.rxCvResult 4 42) = false ∧ pending.cfg = start.cfg ∧ SameCaches start pending ∧
      pending.draws = start.draws ∧ exec (.rxCvResult 4 42) start = .next (next (.rxCvResult 4 42) start)) ∧
    (let s' := pending.setCv { num := 1, val := 2 }
     (composes .getStatus = true ∨ Instr.getStatus = .pull) ∧ s'.cfg = pending.cfg ∧ s'.txbuf = pending.txbuf ∧
     s'.txLen = pending.txLen ∧ s'.txReady = pending.txReady ∧
     exec .getStatus pending = .next (next .getStatus pending)) :=
  ⟨⟨rfl, rfl, ⟨rfl, rfl, rfl⟩, rfl, rfl⟩, .inl rfl, rfl, rfl, rfl, rfl, rfl⟩

theorem test_witness_ConstantsNeverWritten :
    (∃ t, step (given start (code 0x02)) = .next t) ∧ (given start (code 0x02)).inbox.head? ≠ some .reset :=
  ⟨⟨_, rfl⟩, by decide⟩

theorem test_witness_TagsNeverProduced :
    exec (.rxXbusOther 0xF3) start = .next (next (.rxXbusOther 0xF3) start) ∧
    (next (.rxXbusOther 0xF3) start).response = some (.process .ok .unknown) := ⟨rfl, rfl⟩

theorem test_witness_InvariantRunsNeverStop : (given pending (code 0x0D)).Inv :=
  ⟨test_witness_pending_inv.cfgOk, test_witness_pending_inv.canonical, test_witness_pending_inv.inRange,
    .inr ⟨by decide, by decide, by decide, by decide, by decide, by decide⟩⟩

theorem test_witness_StepKeepsInvariant :
    ({ pending with inbox := [.command (code 0x0D)] } : State).Inv ∧
    ∃ t, step { pending with inbox := [.command (code 0x0D)] } = .next t ∧ t.txReady = false :=
  ⟨⟨test_witness_pending_inv.cfgOk, test_witness_pending_inv.canonical, test_witness_pending_inv.inRange,
    .inr ⟨by decide, by decide, by decide, by decide, by decide, by decide⟩⟩, _, rfl, rfl⟩

end Sys2Proof.Tests
end

section
/-! SUPPORT. Proofs of the statements on encoding: the address transforms as numbers (30_encoding.md R80, R81) and
the reserved bytes of both directions (R73). -/

namespace Sys2Proof

/-! What inbound decoding reads. -/

/-- Replacing one byte of a buffer leaves every other index alone. -/
theorem byteAt_set_of_ne (rx : List Byte) {i j : Nat} (v : Byte) (h : i ≠ j) :
    byteAt (rx.set i v) j = byteAt rx j := by
  simp only [byteAt, List.getD_eq_getElem?_getD, List.getElem?_set_ne h]

/-- The decoder reads the length of a buffer, its byte 2 and its bytes from 4 up, and nothing else. -/
theorem decodeFrame_congr {rx rx' : List Byte} (hlen : rx'.length = rx.length) (hgroup : byteAt rx' 2 = byteAt rx 2)
    (hdata : ∀ j, 4 ≤ j → byteAt rx' j = byteAt rx j) : decodeFrame rx' = decodeFrame rx := by
  have hxbus : decodeXbus rx' = decodeXbus rx := by
    simp only [decodeXbus, locoInfoRow, hlen, hdata, Nat.le_refl, Nat.reduceLeDiff]
  simp only [decodeFrame, hlen, hgroup, hxbus]

namespace Machine

/-- PROCESS reads what the decoder reads: the length of a buffer, its byte 2 and its bytes from 4 up. -/
theorem execProcess_congr {rx rx' : List Byte} (hlen : rx'.length = rx.length) (hgroup : byteAt rx' 2 = byteAt rx 2)
    (hdata : ∀ j, 4 ≤ j → byteAt rx' j = byteAt rx j) (s : State) : execProcess rx' s = execProcess rx s := by
  simp only [execProcess, hlen, hgroup, hdata, Nat.le_refl, Nat.reduceLeDiff]

/-! What an accepted compose leaves in the reserved bytes. -/

/-- A command that composes and answers OK has written 0 to both reserved bytes of the frame. -/
theorem composes_ok_reserved {i : Instr} {s t : State} (hi : composes i = true) (he : exec i s = .next t)
    (hok : t.response = some (.status .ok)) :
    Memory.read t.txbuf 1 = some 0x00 ∧ Memory.read t.txbuf 3 = some 0x00 := by
  obtain ⟨st, hst, rfl⟩ | ⟨f, hmin, hmax, -, h1, h3, rfl⟩ := composes_next hi he
  · simp [hst] at hok
  · have hf : f.length ≤ 255 := by have := s.cfg.outbufSize.isLt; omega
    have hc := composed_storeFrame s hf
    exact ⟨(hc.bytes 1 (by omega)).trans h1, (hc.bytes 3 (by omega)).trans h3⟩

/-! The wire form of an address: 14 bits under the marker `0xC000`. -/

/-- Setting the marker above a 14-bit address adds it, as the two share no bit. -/
theorem toNat_setWidth_or_marker (a : BitVec 14) : (a.setWidth 16 ||| 0xC000).toNat = 0xC000 + a.toNat := by
  have hmod : a.toNat % 2 ^ 16 = a.toNat := Nat.mod_eq_of_lt (by omega)
  have hadd : 2 ^ 14 * 3 + a.toNat = 2 ^ 14 * 3 ||| a.toNat := Nat.two_pow_add_eq_or_of_lt a.isLt 3
  rw [BitVec.toNat_or, BitVec.toNat_setWidth, hmod, Nat.or_comm]
  exact hadd.symm

/-- A wire word carries the marker exactly from `0xC000` up. -/
theorem and_marker_eq_iff (w : BitVec 16) : w &&& 0xC000 = 0xC000 ↔ 0xC000 ≤ w.toNat := by
  constructor
  · intro h
    have hle : (w &&& 0xC000).toNat ≤ w.toNat := by
      rw [BitVec.toNat_and]
      exact Nat.and_le_left
    rwa [h] at hle
  · intro h
    have hw : w = (w.setWidth 14).setWidth 16 ||| 0xC000 := by
      apply BitVec.eq_of_toNat_eq
      rw [toNat_setWidth_or_marker, BitVec.toNat_setWidth]
      omega
    rw [hw]
    ext i hi
    simpa using Or.inr

/-- Masking the marker off keeps the lower 14 bits. -/
theorem toNat_and_addressMask (w : BitVec 16) : (w &&& 0x3FFF).toNat = w.toNat % 2 ^ 14 := by
  rw [BitVec.toNat_and]
  exact Nat.and_two_pow_sub_one_eq_mod w.toNat 14

/-- `ToWire` as a number (30_encoding.md R80). -/
theorem toWire_toNat (a : BitVec 14) :
    (toWire a).toNat = if a.toNat < 128 then a.toNat else 0xC000 + a.toNat := by
  by_cases h : a.toNat < 128
  · rw [toWire, if_neg (by omega), if_pos h, BitVec.toNat_setWidth]
    omega
  · rw [toWire, if_pos (by omega), if_neg h]
    exact toNat_setWidth_or_marker a

/-- `FromWire` as a number (30_encoding.md R81). -/
theorem fromWire_toNat (w : BitVec 16) :
    (fromWire w).toNat = if 0xC000 ≤ w.toNat then w.toNat - 0xC000 else w.toNat := by
  by_cases h : 0xC000 ≤ w.toNat
  · have hmarked : 128 ≤ w.toNat ∧ w &&& 0xC000 = 0xC000 := ⟨by omega, (and_marker_eq_iff w).mpr h⟩
    rw [fromWire, if_pos hmarked, if_pos h, toNat_and_addressMask]
    omega
  · have hplain : ¬ (128 ≤ w.toNat ∧ w &&& 0xC000 = 0xC000) :=
      fun hm => h ((and_marker_eq_iff w).mp hm.2)
    rw [fromWire, if_neg hplain, if_neg h]

/-- Settles O27, from the two transforms as numbers. -/
theorem addressCoding : Obligations.AddressCoding :=
  ⟨toWire_toNat, fromWire_toNat⟩

/-- Settles O43: an accepted compose stores a frame with both reserved bytes 0, and neither reading of an inbound
buffer looks at bytes 0, 1 or 3. -/
theorem reservedBytes : Obligations.ReservedBytes := by
  refine ⟨fun _ _ _ => composes_ok_reserved, fun rx i v hi => ?_⟩
  have hlen : (rx.set i v).length = rx.length := List.length_set
  have hi : i = 0 ∨ i = 1 ∨ i = 3 := by simpa using hi
  have hgroup : byteAt (rx.set i v) 2 = byteAt rx 2 := byteAt_set_of_ne rx v (by omega)
  have hdata : ∀ j, 4 ≤ j → byteAt (rx.set i v) j = byteAt rx j :=
    fun j hj => byteAt_set_of_ne rx v (by omega)
  exact ⟨decodeFrame_congr hlen hgroup hdata, execProcess_congr hlen hgroup hdata⟩

end Machine

end Sys2Proof
end

section
/-! SUPPORT. Proofs of the statements on the frame decoder: the track-power reply and its event
(42_frame_decoder.md R155). -/

namespace Sys2Proof.Machine

/-- The event of a track-power reply, by the whole of its key. -/
theorem powerReply_eq_event (key : Byte) (s : State) :
    powerReply key s =
      event (if key = 0x00 then .trackOn else if key = 0x20 then .progMode else .trackOff) s := by
  simp only [powerReply, apply_ite (event · s)]

/-- PROCESS of a long enough buffer of the track-power class replies by its byte 6; byte 5 is not read. -/
theorem execProcess_power {rx : List Byte} {key : Byte} (hlen : 7 ≤ rx.length) (hgroup : rx[2]? = some 0x40)
    (hsub : rx[4]? = some 0x62) (hkey : rx[6]? = some key) (s : State) :
    execProcess rx s = powerReply key s := by
  have hstatus : ¬ (0x62 : Byte) = 0x61 := by decide
  rw [execProcess, if_neg (by omega), if_pos (byteAt_eq hgroup), if_neg (by omega), byteAt_eq hsub,
    if_neg hstatus, if_pos rfl, if_neg (by omega), byteAt_eq hkey]

/-- Settles O34: the two named rows hold their event, and the catch-all row and PROCESS reply by the key. -/
theorem powerReplyEvents : Obligations.PowerReplyEvents := by
  refine ⟨fun _ => rfl, fun _ => rfl, fun key s hkey => ?_, fun rx key s hlen hgroup hsub hrx => ?_⟩
  · obtain ⟨hon, hprog⟩ : key ≠ 0x00 ∧ key ≠ 0x20 := by simpa using hkey
    calc exec (.rxPowerOther key) s = powerReply key s := rfl
      _ = event .trackOff s := by rw [powerReply_eq_event, if_neg hon, if_neg hprog]
  · calc exec (.process rx) s = powerReply key s := execProcess_power hlen hgroup hsub hrx s
      _ = _ := powerReply_eq_event key s

end Sys2Proof.Machine
end

section
/-! SUPPORT. Proofs of the statements on the locomotive-information decode: every register but the speed
(43_loco_info_decode.md R181, R183 to R186). -/

namespace Sys2Proof.Machine

/-- The functions F0 to F27 of a locomotive-information frame, from bits 3 to 0 of its byte 9 up to its byte 12
(43_loco_info_decode.md R186). -/
def functionBits (b9 b10 b11 b12 : Byte) : BitVec 28 := b12 ++ b11 ++ b10 ++ b9.extractLsb' 0 4

section
variable {n m k : Nat}

/-- The lower part of a concatenation holds its bits in place. -/
theorem getLsbD_append_of_lt (x : BitVec n) (y : BitVec m) (hk : k < m) : (x ++ y).getLsbD k = y.getLsbD k := by
  simp [BitVec.getLsbD_append, hk]

/-- The upper part of a concatenation stands above the width of the lower part. -/
theorem getLsbD_append_add (x : BitVec n) (y : BitVec m) : (x ++ y).getLsbD (m + k) = x.getLsbD k := by
  simp [BitVec.getLsbD_append]

end

section
variable (b9 b10 b11 b12 : Byte) {k : Nat}

theorem functionBits_getLsbD_byte9 (hk : k < 4) : (functionBits b9 b10 b11 b12).getLsbD k = b9.getLsbD k := by
  rw [functionBits, getLsbD_append_of_lt _ _ hk, BitVec.getLsbD_extractLsb']
  simp [hk]

theorem functionBits_getLsbD_byte10 (hk : k < 8) :
    (functionBits b9 b10 b11 b12).getLsbD (4 + k) = b10.getLsbD k := by
  rw [functionBits, getLsbD_append_add, getLsbD_append_of_lt _ _ hk]

theorem functionBits_getLsbD_byte11 (hk : k < 8) :
    (functionBits b9 b10 b11 b12).getLsbD (12 + k) = b11.getLsbD k := by
  rw [functionBits, show 12 + k = 4 + (8 + k) by omega, getLsbD_append_add, getLsbD_append_add,
    getLsbD_append_of_lt _ _ hk]

theorem functionBits_getLsbD_byte12 :
    (functionBits b9 b10 b11 b12).getLsbD (20 + k) = b12.getLsbD k := by
  rw [functionBits, show 20 + k = 4 + (8 + (8 + k)) by omega, getLsbD_append_add, getLsbD_append_add,
    getLsbD_append_add]

end

/-- The step mode by the number in the lowest three bits of the mode byte, whatever the speed code
(43_loco_info_decode.md R180, R182). -/
theorem unpackSpeed_steps (c : Config) (b : Byte) (v : BitVec 7) :
    (unpackSpeed c (b.extractLsb' 0 3) v).1 =
      if b.toNat % 8 = 0 then .steps14 else if b.toNat % 8 = 2 then .steps28
      else if b.toNat % 8 = 4 then .steps128 else .unknown := by
  have hmode (m : BitVec 3) : b.extractLsb' 0 3 = m ↔ b.toNat % 8 = m.toNat := by
    simp [← BitVec.toNat_inj, BitVec.extractLsb'_toNat]
  simp [unpackSpeed, hmode, apply_ite Prod.fst]

/-- PROCESS of a long enough locomotive-information buffer replies by its bytes 5 to 12. -/
theorem execProcess_locoInfo {rx : List Byte} {b5 b6 b7 b8 b9 b10 b11 b12 : Byte} (hlen : 13 ≤ rx.length)
    (hgroup : rx[2]? = some 0x40) (hsub : rx[4]? = some 0xEF) (h5 : rx[5]? = some b5) (h6 : rx[6]? = some b6)
    (h7 : rx[7]? = some b7) (h8 : rx[8]? = some b8) (h9 : rx[9]? = some b9) (h10 : rx[10]? = some b10)
    (h11 : rx[11]? = some b11) (h12 : rx[12]? = some b12) (s : State) :
    execProcess rx s =
      locoInfoReply (be16 b5 b6) (b7.extractLsb' 0 3) (b7.getLsbD 3) (b8.extractLsb' 0 7) (b8.getLsbD 7)
        (b9.getLsbD 4) (functionBits b9 b10 b11 b12) s := by
  have hstatus : ¬ (0xEF : Byte) = 0x61 := by decide
  have hpower : ¬ (0xEF : Byte) = 0x62 := by decide
  have hcv : ¬ (0xEF : Byte) = 0x64 := by decide
  rw [execProcess, if_neg (by omega), if_pos (byteAt_eq hgroup), if_neg (by omega), byteAt_eq hsub,
    if_neg hstatus, if_neg hpower, if_neg hcv, if_pos rfl, if_neg (by omega), byteAt_eq h5, byteAt_eq h6,
    byteAt_eq h7, byteAt_eq h8, byteAt_eq h9, byteAt_eq h10, byteAt_eq h11, byteAt_eq h12, functionBits]

/-- Settles O36: the reply writes the seven registers and its answer and nothing else, and each register but the
speed is read off the buffer's bits. -/
theorem locoInfoFields : Obligations.LocoInfoFields := by
  intro rx b5 b6 b7 b8 b9 b10 b11 b12 s hlen hgroup hsub h5 h6 h7 h8 h9 h10 h11 h12
  have hexec : exec (.process rx) s = _ := execProcess_locoInfo hlen hgroup hsub h5 h6 h7 h8 h9 h10 h11 h12 s
  obtain ⟨speed, n, hreply, -⟩ := locoInfoReply_eq (be16 b5 b6) (b7.extractLsb' 0 3) (b7.getLsbD 3)
    (b8.extractLsb' 0 7) (b8.getLsbD 7) (b9.getLsbD 4) (functionBits b9 b10 b11 b12) s
  have haddr := fromWire_toNat (be16 b5 b6)
  rw [be16_toNat] at haddr
  exact ⟨_, hexec.trans hreply, rfl, haddr, unpackSpeed_steps s.cfg b7 _, rfl, rfl, rfl,
    fun _ => functionBits_getLsbD_byte9 b9 b10 b11 b12, fun _ => functionBits_getLsbD_byte10 b9 b10 b11 b12,
    fun _ => functionBits_getLsbD_byte11 b9 b10 b11 b12, fun _ _ => functionBits_getLsbD_byte12 b9 b10 b11 b12,
    ⟨fun _ => rfl, rfl, rfl⟩, rfl, rfl, ⟨rfl, rfl⟩⟩

end Sys2Proof.Machine
end

section
/-! SUPPORT. What an instruction that answers leaves behind, as one relation with a constructor per kind of effect, and
what a step does by the host's next action. Proofs over all instructions split by these constructors. -/

namespace Sys2Proof.Machine

/-! Which side an instruction is on. -/

theorem hostSide_of_composes {i : Instr} (h : composes i = true) : hostSide i = true := by
  cases i <;> simp_all [composes, hostSide]

theorem composes_of_not_hostSide {i : Instr} (h : hostSide i = false) : composes i = false := by
  cases hc : composes i with
  | false => rfl
  | true => simp [hostSide_of_composes hc] at h

theorem ne_pull_of_composes {i : Instr} (h : composes i = true) : i ≠ .pull := by
  rintro rfl
  simp [composes] at h

theorem ne_pull_of_not_hostSide {i : Instr} (h : hostSide i = false) : i ≠ .pull := by
  rintro rfl
  simp [hostSide] at h

/-! Effects. -/

/-- The four accessors (44_accessors.md). -/
def accesses (i : Instr) : Prop := i = .rdLoco ∨ i = .rdCv ∨ i = .rdLib ∨ i = .rdReady

/-- `Effect i s t`: an instruction `i` that answers may leave `t` from `s`. -/
inductive Effect (i : Instr) (s : State) : State → Prop
  /-- A compose that is refused writes nothing (60_exceptions.md R212). -/
  | refused (st : Status) (hi : composes i = true) (hst : st ≠ .ok) : Effect i s (s.respond (.status st))
  /-- A compose that is accepted stores a frame with its header in place (40_frame_composer.md R111). -/
  | stored (f : List Byte) (hi : composes i = true) (hmin : 4 ≤ f.length)
      (hmax : f.length ≤ s.cfg.outbufSize.toNat) (hlength : f[0]? = some (BitVec.ofNat 8 f.length))
      (hreserved1 : f[1]? = some 0) (hreserved3 : f[3]? = some 0) :
      Effect i s (((s.storeFrame f).raiseReady).respond (.status .ok))
  /-- A PULL with nothing pending (R112). -/
  | pulledNothing (hi : i = .pull) (hready : s.txReady = false) : Effect i s (s.respond (.pull .ok false 0 []))
  /-- A PULL of the pending frame (R112). -/
  | pulled (data : List Byte) (hi : i = .pull) : Effect i s (s.clearReady.respond (.pull .ok true s.txLen data))
  /-- An accessor answers OK and writes nothing (44_accessors.md). -/
  | accessed (r : Response) (hi : accesses i) (hok : responseStatus r = .ok) (hr : ∀ st ev, r ≠ .process st ev) :
      Effect i s (s.respond r)
  /-- An inbound frame answered without a write. -/
  | answered (st : Status) (ev : EventTag) (hi : hostSide i = false) (hst : st ∈ [Status.ok, .rxFail, .rxTrunc])
      (hfail : st ≠ .ok → ev = .noEvent)
      (hev : ev ∉ [EventTag.locoInfo, .cvResult, .version, .fwVersion, .libData]) :
      Effect i s (s.respond (.process st ev))
  /-- An inbound frame that writes `cv.*`. -/
  | wroteCv (c : CvCache) (hi : hostSide i = false) :
      Effect i s { s with cv := c, response := some (.process .ok .cvResult) }
  /-- An inbound frame that writes `loco.*`. -/
  | wroteLoco (c : LocoCache) (n : Nat) (hi : hostSide i = false) :
      Effect i s { s with loco := c, draws := n, response := some (.process .ok .locoInfo) }

theorem not_composes_of_accesses {i : Instr} (h : accesses i) : composes i = false := by
  obtain rfl | rfl | rfl | rfl := h <;> rfl

theorem ne_pull_of_accesses {i : Instr} (h : accesses i) : i ≠ .pull := by
  obtain rfl | rfl | rfl | rfl := h <;> simp

/-- An accessor answers at every state, and its answer is no answer of PROCESS. -/
theorem exec_of_accesses {i : Instr} (h : accesses i) (s : State) :
    ∃ r, responseStatus r = .ok ∧ (∀ st ev, r ≠ .process st ev) ∧
      ∀ r', exec i { s with response := r' } = .next (s.respond r) := by
  obtain rfl | rfl | rfl | rfl := h
  · exact ⟨.loco .ok s.loco, rfl, by simp, fun _ => rfl⟩
  · exact ⟨.cv .ok s.cv, rfl, by simp, fun _ => rfl⟩
  · exact ⟨.lib .ok s.lib, rfl, by simp, fun _ => rfl⟩
  · exact ⟨.ready .ok s.txReady, rfl, by simp, fun _ => rfl⟩

/-- Every instruction composes, pulls, accesses or is part of the inbound side. -/
theorem instr_kinds (i : Instr) : composes i = true ∨ i = .pull ∨ accesses i ∨ hostSide i = false := by
  cases h : hostSide i with
  | false => exact .inr (.inr (.inr rfl))
  | true =>
    obtain hc | hp | ha := hostSide_cases h
    · exact .inl hc
    · exact .inr (.inl hp)
    · exact .inr (.inr (.inl ha))

/-- Everything an instruction that answers can do. -/
theorem effect_of_exec {i : Instr} {s t : State} (h : exec i s = .next t) : Effect i s t := by
  obtain hi | rfl | hi | hi := instr_kinds i
  · obtain ⟨st, hst, rfl⟩ | ⟨f, hmin, hmax, h0, h1, h3, rfl⟩ := composes_next hi h
    · exact .refused st hi hst
    · exact .stored f hi hmin hmax h0 h1 h3
  · obtain ⟨hr, rfl⟩ | ⟨-, d, -, rfl⟩ := pull_next h
    · exact .pulledNothing rfl hr
    · exact .pulled d rfl
  · obtain ⟨r, hok, hr, hexec⟩ := exec_of_accesses hi s
    obtain rfl : s.respond r = t := by simpa using (hexec s.response).symm.trans h
    exact .accessed r hi hok hr
  · obtain ⟨st, ev, hst, hfail, hev, hexec⟩ | ⟨c, hexec⟩ | ⟨c, n, hexec⟩ := inbound_cases s hi
    · obtain rfl : s.respond (.process st ev) = t := by simpa using (hexec s rfl).symm.trans h
      exact .answered st ev hi hst hfail hev
    · obtain rfl : { s with cv := c, response := some (.process .ok .cvResult) } = t := by
        simpa using (hexec s).symm.trans h
      exact .wroteCv c hi
    · obtain rfl : { s with loco := c, draws := n, response := some (.process .ok .locoInfo) } = t := by
        simpa using (hexec s rfl rfl).symm.trans h
      exact .wroteLoco c n hi

/-! A step, by the host's next action. -/

theorem step_idle {s : State} (h : s.inbox = []) : step s = .next (idle s) := by simp [step, h]

theorem step_reset {s : State} {rest : List Stimulus} (h : s.inbox = .reset :: rest) :
    step s = .next (assertReset s rest) := by simp [step, h]

theorem step_command {s : State} {p : Port} {rest : List Stimulus} {i : Instr} (h : s.inbox = .command p :: rest)
    (hp : readPort s p = .ok i) : step s = exec i (takeCommand s rest) := by simp [step, h, hp]

theorem step_undefined {s : State} {p : Port} {rest : List Stimulus} (h : s.inbox = .command p :: rest)
    (hp : readPort s p = .error .undefinedCommand) :
    step s = .next ((takeCommand s rest).respond (.status .eCmd)) := by
  simp [step, h, hp, undefinedCommand, refuse]

/-- The four things the host can make of a step. -/
theorem step_kinds (s : State) :
    step s = .next (idle s) ∨
    (∃ rest, s.inbox = .reset :: rest ∧ step s = .next (assertReset s rest)) ∨
    (∃ p rest i, s.inbox = .command p :: rest ∧ step s = exec i (takeCommand s rest)) ∨
    (∃ p rest, s.inbox = .command p :: rest ∧ step s = .next ((takeCommand s rest).respond (.status .eCmd))) := by
  cases h : s.inbox with
  | nil => exact .inl (step_idle h)
  | cons a rest =>
    cases a with
    | reset => exact .inr (.inl ⟨rest, rfl, step_reset h⟩)
    | command p =>
      cases hp : readPort s p with
      | ok i => exact .inr (.inr (.inl ⟨p, rest, i, rfl, step_command h hp⟩))
      | error e =>
        cases e
        exact .inr (.inr (.inr ⟨p, rest, rfl, step_undefined h hp⟩))

end Sys2Proof.Machine
end

section
/-! SUPPORT. Proofs of the statements on runs: the invariant, kept by every step (40_frame_composer.md R113, R114), and
that no run from it stops (00_scope.md R6). -/

namespace Sys2Proof.Machine

/-- A stored frame shows in the configuration, `TXBUF` and the length alone. -/
theorem State.FrameStored.of_eq {s t : State} (h : s.FrameStored) (hcfg : t.cfg = s.cfg)
    (htxbuf : t.txbuf = s.txbuf) (hlen : t.txLen = s.txLen) : t.FrameStored where
  atLeastHeader := by simpa only [hlen] using h.atLeastHeader
  fits := by simpa only [hlen, hcfg] using h.fits
  lengthByte := by simpa only [hlen, htxbuf] using h.lengthByte
  reserved1 := by simpa only [htxbuf] using h.reserved1
  reserved3 := by simpa only [htxbuf] using h.reserved3
  written := by simpa only [hlen, htxbuf] using h.written

/-- The invariant is kept where the configuration, `TXBUF` and the length are, and the flag is not raised. -/
theorem State.Inv.of_eq {s t : State} (h : s.Inv) (hcfg : t.cfg = s.cfg) (htxbuf : t.txbuf = s.txbuf)
    (hlen : t.txLen = s.txLen) (hready : s.txReady = false → t.txReady = false) : t.Inv where
  cfgOk := by simpa only [hcfg] using h.cfgOk
  canonical := by simpa only [htxbuf] using h.canonical
  inRange := by simpa only [htxbuf, hcfg] using h.inRange
  outbound := h.outbound.imp
    (fun ⟨hempty, hzero, hflag⟩ => ⟨htxbuf.trans hempty, hlen.trans hzero, hready hflag⟩)
    (fun hf => hf.of_eq hcfg htxbuf hlen)

/-- A composed frame with its header in place is a stored one. -/
theorem Composed.frameStored {s t : State} {f : List Byte} (h : Composed s t f) (hmin : 4 ≤ f.length)
    (hmax : f.length ≤ s.cfg.outbufSize.toNat) (hlength : f[0]? = some (BitVec.ofNat 8 f.length))
    (hreserved1 : f[1]? = some 0) (hreserved3 : f[3]? = some 0) : t.FrameStored where
  atLeastHeader := by rw [h.len]; exact hmin
  fits := by rw [h.len, h.surround.cfg]; exact hmax
  lengthByte := by
    have hlen : t.txLen = BitVec.ofNat 8 f.length := by rw [← h.len]; simp
    rw [h.bytes 0 (by omega), hlength, hlen]
  reserved1 := (h.bytes 1 (by omega)).trans hreserved1
  reserved3 := (h.bytes 3 (by omega)).trans hreserved3
  written i hi := by
    rw [h.len] at hi
    rw [h.bytes i hi, List.getElem?_eq_getElem hi, Option.isSome_some]

/-- Every effect of an instruction keeps the invariant. -/
theorem Effect.inv {i : Instr} {s t : State} (h : Effect i s t) (hs : s.Inv) : t.Inv := by
  cases h with
  | refused | pulledNothing | accessed | answered | wroteCv | wroteLoco => exact hs.of_eq rfl rfl rfl id
  | pulled => exact hs.of_eq rfl rfl rfl fun _ => rfl
  | stored f hi hmin hmax h0 h1 h3 =>
    have hbyte : f.length ≤ 255 := by have := s.cfg.outbufSize.isLt; omega
    exact ⟨hs.cfgOk, Memory.writeBytes_wf 0 f hs.canonical, Memory.mem_writeBytes_lt hs.inRange (by simpa using hmax),
      .inr ((composed_storeFrame s hbyte).frameStored hmin hmax h0 h1 h3)⟩

theorem takeCommand_inv {s : State} (h : s.Inv) (rest : List Stimulus) : (takeCommand s rest).Inv :=
  h.of_eq rfl rfl rfl id

/-- Reset leaves nothing composed, in an admissible configuration. -/
theorem assertReset_inv {s : State} (h : s.cfg.Ok) (rest : List Stimulus) : (assertReset s rest).Inv :=
  ⟨h, .nil, by simp, .inl ⟨rfl, rfl, rfl⟩⟩

/-- Settles O56: a step idles, resets, refuses an undefined command, or has the effect of an instruction. -/
theorem stepKeepsInvariant : Obligations.StepKeepsInvariant := by
  intro s t hs h
  obtain hstep | ⟨rest, -, hstep⟩ | ⟨p, rest, i, -, hstep⟩ | ⟨p, rest, -, hstep⟩ := step_kinds s
  · obtain rfl : idle s = t := by simpa using hstep.symm.trans h
    exact hs.of_eq rfl rfl rfl id
  · obtain rfl : assertReset s rest = t := by simpa using hstep.symm.trans h
    exact assertReset_inv hs.cfgOk rest
  · exact (effect_of_exec (hstep.symm.trans h)).inv (takeCommand_inv hs rest)
  · obtain rfl : (takeCommand s rest).respond (.status .eCmd) = t := by simpa using hstep.symm.trans h
    exact hs.of_eq rfl rfl rfl id

/-- A PULL that meets the invariant answers: the flag stands only over a whole frame. -/
theorem exec_pull_answers {s : State} (h : s.Inv) : ∃ t, exec .pull s = .next t := by
  cases hr : s.txReady with
  | false => exact ⟨_, pullFrame_empty hr⟩
  | true =>
    obtain ⟨-, -, hf⟩ | hf := h.outbound
    · simp [hr] at hf
    · obtain ⟨data, hdata, -⟩ := readTxBytes_total (s := s) (i := 0) (by simpa using hf.written)
        (by simpa using hf.fits)
      exact ⟨s.clearReady.respond (.pull .ok true s.txLen data),
        show pullFrame s = _ by simp only [pullFrame, hr, if_true, hdata]⟩

/-- Every instruction answers from a state that meets the invariant. -/
theorem exec_answers {i : Instr} {s : State} (h : s.Inv) : ∃ t, exec i s = .next t := by
  obtain hi | rfl | hi | hi := instr_kinds i
  · obtain ⟨st, -, hexec⟩ | ⟨g, p, cs, hexec⟩ := composes_cases s hi
    · exact ⟨_, hexec s rfl⟩
    · rw [hexec s rfl]
      obtain ⟨-, he⟩ | ⟨-, he⟩ | ⟨-, -, he⟩ := compose_cases (rfl : compose g p cs s = _) <;> exact ⟨_, he⟩
  · exact exec_pull_answers h
  · obtain ⟨r, -, -, hexec⟩ := exec_of_accesses hi s
    exact ⟨_, hexec s.response⟩
  · obtain ⟨st, ev, -, -, -, hexec⟩ | ⟨c, hexec⟩ | ⟨c, n, hexec⟩ := inbound_cases s hi
    · exact ⟨_, hexec s rfl⟩
    · exact ⟨_, hexec s⟩
    · exact ⟨_, hexec s rfl rfl⟩

/-- Every step from a state that meets the invariant reaches a next state. -/
theorem step_answers {s : State} (h : s.Inv) : ∃ t, step s = .next t := by
  obtain hstep | ⟨rest, -, hstep⟩ | ⟨p, rest, i, -, hstep⟩ | ⟨p, rest, -, hstep⟩ := step_kinds s
  · exact ⟨_, hstep⟩
  · exact ⟨_, hstep⟩
  · rw [hstep]
    exact exec_answers (takeCommand_inv h rest)
  · exact ⟨_, hstep⟩

/-- Settles O57, by induction on the length of the run: the next state exists and meets the invariant again. -/
theorem invariantRunsNeverStop : Obligations.InvariantRunsNeverStop := by
  intro s hs n
  induction n generalizing s with
  | zero => exact ⟨s, rfl⟩
  | succ n ih =>
    obtain ⟨t, ht⟩ := step_answers hs
    rw [run_succ ht n]
    exact ih t (stepKeepsInvariant s t hs ht)

/-- The spec's default tables and groups are admissible (10_state.md R38 P2 to P4, 30_encoding.md R97 G1). -/
theorem default_cfg_ok : Config.default.Ok := by decide

/-- Settles O55: the default configuration is admissible and nothing is composed. -/
theorem resetMeetsInvariant : Obligations.ResetMeetsInvariant :=
  ⟨default_cfg_ok, .nil, by simp [State.reset], .inl ⟨rfl, rfl, rfl⟩⟩

end Sys2Proof.Machine
end

section
/-! SUPPORT. What the decoder answers, said once: an equation per command code (30_encoding.md R90, R91) and per class
of inbound frames (R95 to R98), and the rows a buffer can resolve to. -/

namespace Sys2Proof

/-! The command port. -/

section
variable (fill : Nat → Byte) {p : Port}

theorem decode_compose (h : p.cmdOp = 0x01) :
    decode fill p = .ok (.compose p.aGroup (drivenBytes fill p.aN.toNat p.aPayload) p.aCs) := by simp [decode, h]

theorem decode_getStatus (h : p.cmdOp = 0x02) : decode fill p = .ok .getStatus := by simp [decode, h]

theorem decode_trackOff (h : p.cmdOp = 0x03) : decode fill p = .ok .trackOff := by simp [decode, h]

theorem decode_trackOn (h : p.cmdOp = 0x04) : decode fill p = .ok .trackOn := by simp [decode, h]

theorem decode_getFwVersion (h : p.cmdOp = 0x05) : decode fill p = .ok .getFwVersion := by simp [decode, h]

theorem decode_setBcast (h : p.cmdOp = 0x06) : decode fill p = .ok (.setBcast p.aFlags) := by simp [decode, h]

theorem decode_getLocoInfo (h : p.cmdOp = 0x07) : decode fill p = .ok (.getLocoInfo p.aAddr) := by simp [decode, h]

theorem decode_setLocoDrive (h : p.cmdOp = 0x08) :
    decode fill p = .ok (.setLocoDrive p.aAddr (stepModeOfCode p.aSteps) p.aSpeed p.aDir) := by simp [decode, h]

theorem decode_setLocoFunc (h : p.cmdOp = 0x09) :
    decode fill p = .ok (.setLocoFunc p.aAddr p.aFn (funcModeOfCode p.aMode)) := by simp [decode, h]

theorem decode_setTurnout (h : p.cmdOp = 0x0A) :
    decode fill p = .ok (.setTurnout p.aTaddr (turnoutDirOfCode p.aTdir)) := by simp [decode, h]

theorem decode_cvRead (h : p.cmdOp = 0x0B) : decode fill p = .ok (.cvRead p.aCv) := by simp [decode, h]

theorem decode_cvWrite (h : p.cmdOp = 0x0C) : decode fill p = .ok (.cvWrite p.aCv p.aVal) := by simp [decode, h]

theorem decode_pull (h : p.cmdOp = 0x0D) : decode fill p = .ok .pull := by simp [decode, h]

theorem decode_process (h : p.cmdOp = 0x0E) :
    decode fill p = .ok (decodeProcess (drivenBytes fill p.rxLen.toNat p.rx)) := by simp [decode, h]

theorem decode_rdLoco (h : p.cmdOp = 0x0F) : decode fill p = .ok .rdLoco := by simp [decode, h]

theorem decode_rdCv (h : p.cmdOp = 0x10) : decode fill p = .ok .rdCv := by simp [decode, h]

theorem decode_rdLib (h : p.cmdOp = 0x11) : decode fill p = .ok .rdLib := by simp [decode, h]

theorem decode_rdReady (h : p.cmdOp = 0x12) : decode fill p = .ok .rdReady := by simp [decode, h]

/-- The codes outside the table (60_exceptions.md R220). -/
theorem decode_undefined (h : p.cmdOp = 0 ∨ 0x13 ≤ p.cmdOp.toNat) : decode fill p = .error .undefinedCommand := by
  have hcode : p.cmdOp.toNat = 0 ∨ 0x13 ≤ p.cmdOp.toNat := h.imp_left fun h0 => by rw [h0]; rfl
  unfold decode
  split
  case h_19 => rfl
  all_goals omega

end

/-! Inbound frames, by class. -/

section
variable {rx : List Byte}

theorem length_gt_of_getElem? {i : Nat} {b : Byte} (h : rx[i]? = some b) : i < rx.length :=
  (List.getElem?_eq_some_iff.mp h).1

theorem decodeFrame_short (h : rx.length < 3) : decodeFrame rx = none := by rw [decodeFrame, if_pos h]

theorem decodeFrame_group {g : Byte} (hg : rx[2]? = some g) (hne : g ≠ 0x40) :
    decodeFrame rx = some (groupRow g) := by
  have hlen := length_gt_of_getElem? hg
  rw [decodeFrame, if_neg (by omega), byteAt_eq hg, if_neg hne]

theorem decodeFrame_xbus_short (hg : rx[2]? = some 0x40) (h : rx.length < 5) : decodeFrame rx = none := by
  have hlen := length_gt_of_getElem? hg
  rw [decodeFrame, if_neg (by omega), byteAt_eq hg, if_pos rfl, if_pos h]

theorem decodeXbus_status (hsub : rx[4]? = some 0x61) :
    decodeXbus rx = if rx.length < 6 then none else some (statusRow (byteAt rx 5)) := by
  simp [decodeXbus, byteAt_eq hsub]

theorem decodeXbus_power (hsub : rx[4]? = some 0x62) :
    decodeXbus rx = if rx.length < 7 then none else some (powerRow (byteAt rx 6)) := by
  simp [decodeXbus, byteAt_eq hsub]

theorem decodeXbus_cvResult (hsub : rx[4]? = some 0x64) :
    decodeXbus rx = if rx.length < 9 then none
      else some (.rxCvResult (be16 (byteAt rx 6) (byteAt rx 7)) (byteAt rx 8)) := by
  simp [decodeXbus, byteAt_eq hsub]

theorem decodeXbus_locoInfo (hsub : rx[4]? = some 0xEF) :
    decodeXbus rx = if rx.length < 13 then none else some (locoInfoRow rx) := by
  simp [decodeXbus, byteAt_eq hsub]

theorem decodeXbus_other {sub : Byte} (hsub : rx[4]? = some sub) (h : sub ∉ [(0x61 : Byte), 0x62, 0x64, 0xEF]) :
    decodeXbus rx = some (.rxXbusOther sub) := by
  simp only [List.mem_cons, List.not_mem_nil, or_false, not_or] at h
  obtain ⟨hstatus, hpower, hcv, hloco⟩ := h
  rw [decodeXbus, byteAt_eq hsub, if_neg hstatus, if_neg hpower, if_neg hcv, if_neg hloco]

/-- The five classes of sub-opcodes of group 0x40 (42_frame_decoder.md R153). -/
theorem subOpcode_cases (sub : Byte) :
    sub = 0x61 ∨ sub = 0x62 ∨ sub = 0x64 ∨ sub = 0xEF ∨ sub ∉ [(0x61 : Byte), 0x62, 0x64, 0xEF] := by
  simp only [List.mem_cons, List.not_mem_nil, or_false]
  tauto

/-- A buffer of group 0x40 has a sub-opcode. -/
theorem exists_subOpcode (hlen : 5 ≤ rx.length) : ∃ sub, rx[4]? = some sub :=
  ⟨_, getElem?_eq_byteAt (by omega)⟩

/-- Everything a buffer of group 0x40 can resolve to. -/
theorem decodeXbus_cases {i : Instr} (hlen : 5 ≤ rx.length) (h : decodeXbus rx = some i) :
    (∃ key, i = statusRow key) ∨ (∃ key, i = powerRow key) ∨ (∃ w v, i = .rxCvResult w v) ∨
    (∃ w m occ v dir light func, i = .rxLocoInfo w m occ v dir light func) ∨
    (∃ sub, sub ∉ [(0x61 : Byte), 0x62, 0x64, 0xEF] ∧ i = .rxXbusOther sub) := by
  obtain ⟨sub, hsub⟩ := exists_subOpcode hlen
  obtain rfl | rfl | rfl | rfl | hs := subOpcode_cases sub
  · rw [decodeXbus_status hsub, Option.ite_none_left_eq_some] at h
    exact .inl ⟨_, (Option.some.inj h.2).symm⟩
  · rw [decodeXbus_power hsub, Option.ite_none_left_eq_some] at h
    exact .inr (.inl ⟨_, (Option.some.inj h.2).symm⟩)
  · rw [decodeXbus_cvResult hsub, Option.ite_none_left_eq_some] at h
    exact .inr (.inr (.inl ⟨_, _, (Option.some.inj h.2).symm⟩))
  · rw [decodeXbus_locoInfo hsub, Option.ite_none_left_eq_some] at h
    exact .inr (.inr (.inr (.inl ⟨_, _, _, _, _, _, _, (Option.some.inj h.2).symm⟩)))
  · rw [decodeXbus_other hsub hs] at h
    exact .inr (.inr (.inr (.inr ⟨_, hs, (Option.some.inj h).symm⟩)))

/-- The three ways a buffer goes through the outer dispatch (42_frame_decoder.md R150). -/
theorem decodeFrame_dispatch (rx : List Byte) :
    (rx.length < 3 ∨ rx[2]? = some 0x40 ∧ rx.length < 5) ∧ decodeFrame rx = none ∨
    (∃ g, rx[2]? = some g ∧ g ≠ 0x40 ∧ decodeFrame rx = some (groupRow g)) ∨
    rx[2]? = some 0x40 ∧ 5 ≤ rx.length ∧ decodeFrame rx = decodeXbus rx := by
  by_cases h3 : rx.length < 3
  · exact .inl ⟨.inl h3, decodeFrame_short h3⟩
  have hg := getElem?_eq_byteAt (rx := rx) (i := 2) (by omega)
  by_cases hx : byteAt rx 2 = 0x40
  · rw [hx] at hg
    by_cases h5 : rx.length < 5
    · exact .inl ⟨.inr ⟨hg, h5⟩, decodeFrame_xbus_short hg h5⟩
    · exact .inr (.inr ⟨hg, by omega, decodeFrame_xbus (by omega) hg⟩)
  · exact .inr (.inl ⟨_, hg, hx, decodeFrame_group hg hx⟩)

/-- Everything a buffer that is long enough can resolve to. -/
theorem decodeFrame_cases {i : Instr} (h : decodeFrame rx = some i) :
    (∃ g, g ≠ 0x40 ∧ i = groupRow g) ∨
    (∃ key, i = statusRow key) ∨ (∃ key, i = powerRow key) ∨ (∃ w v, i = .rxCvResult w v) ∨
    (∃ w m occ v dir light func, i = .rxLocoInfo w m occ v dir light func) ∨
    (∃ sub, sub ∉ [(0x61 : Byte), 0x62, 0x64, 0xEF] ∧ i = .rxXbusOther sub) := by
  obtain ⟨-, hd⟩ | ⟨g, -, hne, hd⟩ | ⟨-, hlen, hd⟩ := decodeFrame_dispatch rx <;> rw [hd] at h
  · cases h
  · exact .inl ⟨g, hne, by simpa using h.symm⟩
  · exact .inr (decodeXbus_cases hlen h)

/-- The buffer of group 0x40 is shorter than its sub-opcode's class needs (42_frame_decoder.md R158). -/
def SubTooShort (rx : List Byte) : Prop :=
  (rx[4]? = some 0x61 ∧ rx.length < 6) ∨ (rx[4]? = some 0x62 ∧ rx.length < 7) ∨
  (rx[4]? = some 0x64 ∧ rx.length < 9) ∨ (rx[4]? = some 0xEF ∧ rx.length < 13)

theorem decodeXbus_eq_none_iff (hlen : 5 ≤ rx.length) : decodeXbus rx = none ↔ SubTooShort rx := by
  obtain ⟨sub, hsub⟩ := exists_subOpcode hlen
  obtain rfl | rfl | rfl | rfl | hs := subOpcode_cases sub
  · simp [decodeXbus_status hsub, SubTooShort, hsub]
  · simp [decodeXbus_power hsub, SubTooShort, hsub]
  · simp [decodeXbus_cvResult hsub, SubTooShort, hsub]
  · simp [decodeXbus_locoInfo hsub, SubTooShort, hsub]
  · rw [decodeXbus_other hsub hs]
    simp_all [SubTooShort]

/-- The least length of a buffer of group 0x40, by its sub-opcode. -/
theorem length_lt_leastLength_xbus (hg : rx[2]? = some 0x40) (hlen : 5 ≤ rx.length) :
    rx.length < leastLength rx ↔ SubTooShort rx := by
  obtain ⟨sub, hsub⟩ := exists_subOpcode hlen
  rw [leastLength, hg]
  obtain rfl | rfl | rfl | rfl | hs := subOpcode_cases sub
  · simp [SubTooShort, hsub]
  · simp [SubTooShort, hsub]
  · simp [SubTooShort, hsub]
  · simp [SubTooShort, hsub]
  · simp_all [SubTooShort]

theorem leastLength_group {g : Byte} (hg : rx[2]? = some g) (hne : g ≠ 0x40) : leastLength rx = 3 := by
  simp only [leastLength, hg, if_neg hne]

theorem leastLength_of_length_lt (h : rx.length < 3) : leastLength rx = 3 := by
  rw [leastLength, List.getElem?_eq_none (by omega)]

theorem leastLength_xbus_short (hg : rx[2]? = some 0x40) (h : rx.length < 5) : leastLength rx = 5 := by
  rw [leastLength, hg, List.getElem?_eq_none (i := 4) (by omega)]
  rfl

/-- The decoder finds no row exactly for the buffers that are too short. -/
theorem decodeFrame_eq_none_iff (rx : List Byte) : decodeFrame rx = none ↔ truncated rx = true := by
  rw [truncated, decide_eq_true_eq]
  obtain ⟨h | ⟨hg, h⟩, hd⟩ | ⟨g, hg, hne, hd⟩ | ⟨hg, hlen, hd⟩ := decodeFrame_dispatch rx <;> rw [hd]
  · simpa [leastLength_of_length_lt h] using h
  · simpa [leastLength_xbus_short hg h] using h
  · simpa [leastLength_group hg hne] using Nat.succ_le_of_lt (length_gt_of_getElem? hg)
  · rw [decodeXbus_eq_none_iff hlen, length_lt_leastLength_xbus hg hlen]

/-- The buffers that are too short, spelled out (42_frame_decoder.md R158). -/
theorem truncated_iff (rx : List Byte) :
    truncated rx = true ↔ rx.length < 3 ∨ (rx[2]? = some 0x40 ∧ (rx.length < 5 ∨ SubTooShort rx)) := by
  rw [← decodeFrame_eq_none_iff]
  obtain ⟨h | h, hd⟩ | ⟨g, hg, hne, hd⟩ | ⟨hg, hlen, hd⟩ := decodeFrame_dispatch rx <;> rw [hd]
  · simp [h]
  · simp [h]
  · have hlen := length_gt_of_getElem? hg
    rw [hg, Option.some.injEq]
    simp only [reduceCtorEq, hne, false_and, or_false, false_iff]
    omega
  · have h3 : ¬ rx.length < 3 := by omega
    have h5 : ¬ rx.length < 5 := by omega
    simp only [decodeXbus_eq_none_iff hlen, h3, hg, h5, false_or, true_and]

end

end Sys2Proof
end

section
/-! SUPPORT. Proofs of the statements on the port and the encoding: that decoding undoes encoding, that only
well-formed instructions are decoded, and which bytes and ports the decoder does not read (30_encoding.md R72, R90,
R91, R98, R99). -/

namespace Sys2Proof

/-! The fields of a locomotive-information frame that the encoder builds (30_encoding.md R86, R87). -/

/-- A field in the lowest bits of a byte is read back. -/
theorem extractLsb'_append_low {n m : Nat} (x : BitVec n) (y : BitVec m) : (x ++ y).extractLsb' 0 m = y := by
  rw [BitVec.extractLsb'_append_eq_of_add_le (by omega), BitVec.extractLsb'_eq_self]

theorem getLsbD_ofBool_zero (b : Bool) : (BitVec.ofBool b).getLsbD 0 = b := by cases b <;> rfl

/-- A flag between two fields of a byte stands just above the lower field. -/
theorem getLsbD_append_ofBool_append {n m : Nat} (x : BitVec n) (b : Bool) (y : BitVec m) :
    (x ++ BitVec.ofBool b ++ y).getLsbD m = b := by
  calc (x ++ BitVec.ofBool b ++ y).getLsbD m
      = (x ++ BitVec.ofBool b).getLsbD 0 := Machine.getLsbD_append_add (k := 0) _ y
    _ = (BitVec.ofBool b).getLsbD 0 := Machine.getLsbD_append_of_lt x _ Nat.one_pos
    _ = b := getLsbD_ofBool_zero b

/-- The four bytes of the function bitmap put it together again. -/
theorem functionBits_of_func (high : BitVec 4) (func : BitVec 28) :
    Machine.functionBits (high ++ func.extractLsb' 0 4) (func.extractLsb' 4 8) (func.extractLsb' 12 8)
      (func.extractLsb' 20 8) = func := by
  rw [Machine.functionBits, extractLsb'_append_low]
  rw [BitVec.extractLsb'_append_extractLsb'_eq_extractLsb' (by rfl),
    BitVec.extractLsb'_append_extractLsb'_eq_extractLsb' (by rfl),
    BitVec.extractLsb'_append_extractLsb'_eq_extractLsb' (by rfl), BitVec.extractLsb'_eq_self]

/-- The fields of the shortest frame of RX_LOCO_INFO are the fields it was built from. -/
theorem locoInfoRow_locoInfoFrame (w : BitVec 16) (mode : BitVec 3) (occ : Bool) (code : BitVec 7) (dir light : Bool)
    (func : BitVec 28) :
    locoInfoRow (locoInfoFrame w mode occ code dir light func) = .rxLocoInfo w mode occ code dir light func := by
  have hmode : (0#4 ++ BitVec.ofBool occ ++ mode : BitVec 8).extractLsb' 0 3 = mode := extractLsb'_append_low _ mode
  have hocc : (0#4 ++ BitVec.ofBool occ ++ mode : BitVec 8).getLsbD 3 = occ := getLsbD_append_ofBool_append _ occ mode
  have hlight : (0#3 ++ BitVec.ofBool light ++ func.extractLsb' 0 4 : BitVec 8).getLsbD 4 = light :=
    getLsbD_append_ofBool_append _ light _
  have hfunc := functionBits_of_func (0#3 ++ BitVec.ofBool light) func
  calc locoInfoRow (locoInfoFrame w mode occ code dir light func)
      = .rxLocoInfo (be16 (hiByte w) (loByte w))
          ((0#4 ++ BitVec.ofBool occ ++ mode : BitVec 8).extractLsb' 0 3)
          ((0#4 ++ BitVec.ofBool occ ++ mode : BitVec 8).getLsbD 3)
          ((Machine.speedByte dir code).extractLsb' 0 7) ((Machine.speedByte dir code).getLsbD 7)
          ((0#3 ++ BitVec.ofBool light ++ func.extractLsb' 0 4 : BitVec 8).getLsbD 4)
          (Machine.functionBits (0#3 ++ BitVec.ofBool light ++ func.extractLsb' 0 4) (func.extractLsb' 4 8)
            (func.extractLsb' 12 8) (func.extractLsb' 20 8)) := rfl
    _ = _ := by
      rw [be16_hi_lo, hmode, hocc, Machine.speedByte_code, Machine.speedByte_dir, hlight, hfunc]

/-! Rows of one key byte, and the key they are named after. -/

theorem statusRow_of_not_mem {key : Byte} (h : key ∉ [(0x00 : Byte), 0x01, 0x02, 0x13]) :
    statusRow key = .rxStatusOther key := by
  simp only [List.mem_cons, List.not_mem_nil, or_false, not_or] at h
  obtain ⟨h0, h1, h2, h3⟩ := h
  rw [statusRow, if_neg h0, if_neg h1, if_neg h2, if_neg h3]

theorem powerRow_of_not_mem {key : Byte} (h : key ∉ [(0x00 : Byte), 0x20]) : powerRow key = .rxPowerOther key := by
  simp only [List.mem_cons, List.not_mem_nil, or_false, not_or] at h
  rw [powerRow, if_neg h.1, if_neg h.2]

/-- The table of rows names the table's groups and no other. -/
theorem groupRow_of_not_mem {g : Byte} (h : g ∉ Config.tableGroups) : groupRow g = .rxGroupUnrec g := by
  have hnone : groupRows.lookup g = none := by
    rw [List.lookup_eq_none_iff]
    intro q hq
    have hmem : q.1 ∈ Config.tableGroups := List.mem_map_of_mem (f := Prod.fst) hq
    simpa using fun heq : g = q.1 => h (heq ▸ hmem)
  rw [groupRow, hnone, Option.getD_none]

theorem decodeProcess_of_some {rx : List Byte} {i : Instr} (h : decodeFrame rx = some i) : decodeProcess rx = i := by
  rw [decodeProcess, h, Option.getD_some]

/-- An instruction that the encoder drives as a frame is decoded where its frame resolves to it. -/
theorem decode_of_frame (fill : Nat → Byte) {i : Instr} {rx : List Byte} (henc : encode i = Port.ofFrame rx)
    (hlen : rx.length ≤ 65535) (h : decodeProcess rx = i) : decode fill (encode i) = .ok i := by
  rw [henc, decode_ofFrame fill hlen, h]

/-- Settles O6. A host command is read back from its ports; a row is read back from its shortest frame. -/
theorem decodeOfEncode : Obligations.DecodeOfEncode := by
  intro i hwf fill
  cases i
  case compose group payload cs =>
    have hlen : payload.length ≤ 255 := by simpa [Instr.wellFormed] using hwf
    have hn : (BitVec.ofNat 8 payload.length).toNat = payload.length := by simp; omega
    rw [decode_compose fill (p := encode (.compose group payload cs)) rfl]
    simp only [encode, hn]
    rw [drivenBytes_of_le fill (Nat.le_refl _), List.take_length]
  case setLocoDrive addr steps speed dir =>
    rw [decode_setLocoDrive fill (p := encode (.setLocoDrive addr steps speed dir)) rfl]
    simp [encode]
  case setLocoFunc addr fn mode =>
    rw [decode_setLocoFunc fill (p := encode (.setLocoFunc addr fn mode)) rfl]
    simp [encode]
  case setTurnout taddr tdir =>
    rw [decode_setTurnout fill (p := encode (.setTurnout taddr tdir)) rfl]
    simp [encode]
  case process rx =>
    obtain ⟨hshort, hlen⟩ : truncated rx = true ∧ rx.length ≤ 65535 := by simpa [Instr.wellFormed] using hwf
    refine decode_of_frame fill rfl hlen ?_
    rw [decodeProcess, (decodeFrame_eq_none_iff rx).mpr hshort, Option.getD_none]
  case rxStatusOther key =>
    have hkey : key ∉ [(0x00 : Byte), 0x01, 0x02, 0x13] := by simpa only [Instr.wellFormed, decide_eq_true_eq] using hwf
    exact decode_of_frame fill rfl (by simp) (statusRow_of_not_mem hkey)
  case rxPowerOther key =>
    have hkey : key ∉ [(0x00 : Byte), 0x20] := by simpa only [Instr.wellFormed, decide_eq_true_eq] using hwf
    exact decode_of_frame fill rfl (by simp) (powerRow_of_not_mem hkey)
  case rxCvResult w val =>
    refine decode_of_frame fill rfl (by simp) ?_
    show Instr.rxCvResult (be16 (hiByte w) (loByte w)) val = _
    rw [be16_hi_lo]
  case rxLocoInfo w mode occ code dir light func =>
    exact decode_of_frame fill rfl (by simp [locoInfoFrame])
      (locoInfoRow_locoInfoFrame w mode occ code dir light func)
  case rxXbusOther sub =>
    have hsub : sub ∉ [(0x61 : Byte), 0x62, 0x64, 0xEF] := by
      simpa only [Instr.wellFormed, decide_eq_true_eq] using hwf
    exact decode_of_frame fill rfl (by simp)
      (decodeProcess_of_some ((decodeFrame_xbus (by simp) rfl).trans (decodeXbus_other rfl hsub)))
  case rxGroupUnrec g =>
    obtain ⟨hne, hmem⟩ : g ≠ 0x40 ∧ g ∉ Config.tableGroups := by simpa [Instr.wellFormed] using hwf
    exact decode_of_frame fill rfl (by simp)
      (decodeProcess_of_some ((decodeFrame_group rfl hne).trans (congrArg some (groupRow_of_not_mem hmem))))
  all_goals rfl

/-! What is decoded is well formed. -/

theorem statusRow_wellFormed (key : Byte) : (statusRow key).wellFormed = true := by
  by_cases h : key ∈ [(0x00 : Byte), 0x01, 0x02, 0x13]
  · simp only [List.mem_cons, List.not_mem_nil, or_false] at h
    obtain rfl | rfl | rfl | rfl := h <;> rfl
  · rw [statusRow_of_not_mem h, Instr.wellFormed, decide_eq_true h]

theorem powerRow_wellFormed (key : Byte) : (powerRow key).wellFormed = true := by
  by_cases h : key ∈ [(0x00 : Byte), 0x20]
  · simp only [List.mem_cons, List.not_mem_nil, or_false] at h
    obtain rfl | rfl := h <;> rfl
  · rw [powerRow_of_not_mem h, Instr.wellFormed, decide_eq_true h]

theorem groupRow_wellFormed {g : Byte} (hne : g ≠ 0x40) : (groupRow g).wellFormed = true := by
  by_cases h : g ∈ Config.tableGroups
  · exact (by decide : ∀ g ∈ Config.tableGroups, (groupRow g).wellFormed = true) g h
  · rw [groupRow_of_not_mem h, Instr.wellFormed]
    simpa using ⟨hne, h⟩

theorem decodeFrame_wellFormed {rx : List Byte} {i : Instr} (h : decodeFrame rx = some i) : i.wellFormed = true := by
  obtain ⟨g, hne, rfl⟩ | ⟨key, rfl⟩ | ⟨key, rfl⟩ | ⟨w, v, rfl⟩ | ⟨w, m, o, c, d, l, f, rfl⟩ | ⟨sub, hs, rfl⟩ :=
    decodeFrame_cases h
  · exact groupRow_wellFormed hne
  · exact statusRow_wellFormed key
  · exact powerRow_wellFormed key
  · rfl
  · rfl
  · exact decide_eq_true hs

theorem decodeProcess_wellFormed {rx : List Byte} (hlen : rx.length ≤ 65535) :
    (decodeProcess rx).wellFormed = true := by
  cases h : decodeFrame rx with
  | some i => rw [decodeProcess_of_some h]; exact decodeFrame_wellFormed h
  | none =>
    rw [decodeProcess, h, Option.getD_none, Instr.wellFormed, (decodeFrame_eq_none_iff rx).mp h]
    simpa using hlen

/-- Settles O7: a payload fits `a_n`, a buffer fits `rx_len`, and every other command is well formed as it is. -/
theorem decodedIsWellFormed : Obligations.DecodedIsWellFormed := by
  intro fill p i h
  unfold decode at h
  split at h
  case h_1 =>
    obtain rfl := Except.ok.inj h
    rw [Instr.wellFormed, length_drivenBytes]
    exact decide_eq_true (by omega)
  case h_14 =>
    obtain rfl := Except.ok.inj h
    exact decodeProcess_wellFormed (by rw [length_drivenBytes]; omega)
  case h_19 => cases h
  all_goals (obtain rfl := Except.ok.inj h; rfl)

/-- Settles O8, by evaluating the decoder at the twelve numbers. -/
theorem tableWordsDecode : Obligations.TableWordsDecode :=
  ⟨rfl, rfl, rfl, rfl, rfl, rfl, rfl, rfl, rfl, rfl, rfl, rfl⟩

/-- Settles O9, by the command code: each command reads the ports of its own premise. -/
theorem unlistedPortsIgnored : Obligations.UnlistedPortsIgnored := by
  intro fill p q hcmd hcompose hbcast hinfo hdrive hfunc hturnout hread hwrite hprocess
  have hcode {n : Nat} (h : p.cmdOp.toNat = n) : p.cmdOp = BitVec.ofNat 5 n := by rw [← h]; simp
  unfold decode
  rw [hcmd]
  split
  case h_1 h =>
    obtain ⟨hgroup, hn, hpayload, hcs⟩ := hcompose (hcode h)
    rw [hgroup, hn, hpayload, hcs]
  case h_6 h => rw [hbcast (hcode h)]
  case h_7 h => rw [hinfo (hcode h)]
  case h_8 h =>
    obtain ⟨haddr, hsteps, hspeed, hdir⟩ := hdrive (hcode h)
    rw [haddr, hsteps, hspeed, hdir]
  case h_9 h =>
    obtain ⟨haddr, hfn, hmode⟩ := hfunc (hcode h)
    rw [haddr, hfn, hmode]
  case h_10 h =>
    obtain ⟨haddr, hdir⟩ := hturnout (hcode h)
    rw [haddr, hdir]
  case h_11 h => rw [hread (hcode h)]
  case h_12 h =>
    obtain ⟨hcv, hval⟩ := hwrite (hcode h)
    rw [hcv, hval]
  case h_14 h =>
    obtain ⟨hrx, hlen⟩ := hprocess (hcode h)
    rw [hrx, hlen]
  all_goals rfl

/-! What lies in an operand buffer (70_reset_and_hazards.md R257). -/

theorem drivenBytes_getElem?_driven (fill : Nat → Byte) {n i : Nat} {bs : List Byte} (hn : i < n)
    (hi : i < bs.length) : (drivenBytes fill n bs)[i]? = bs[i]? := by
  rw [drivenBytes, List.getElem?_append_left (by rw [List.length_take]; omega), List.getElem?_take_of_lt hn]

theorem drivenBytes_getElem?_undriven (fill : Nat → Byte) {n i : Nat} {bs : List Byte} (hn : i < n)
    (hi : bs.length ≤ i) : (drivenBytes fill n bs)[i]? = some (fill i) := by
  have htake : (bs.take n).length = bs.length := by rw [List.length_take]; omega
  rw [drivenBytes, List.getElem?_append_right (by omega), htake, List.getElem?_map,
    List.getElem?_range' (by omega), Option.map_some, Nat.one_mul, Nat.add_sub_cancel' hi]

/-- Settles O10: the buffer is the driven bytes, filled up to `rx_len`. -/
theorem rxLenIsBelieved : Obligations.RxLenIsBelieved := fun fill p hcode =>
  ⟨drivenBytes fill p.rxLen.toNat p.rx, decode_process fill hcode, length_drivenBytes fill _ _,
    fun _ => drivenBytes_getElem?_driven fill, fun _ => drivenBytes_getElem?_undriven fill⟩

/-! Bytes behind a frame, and fields no rule reads. -/

theorem byteAt_append {rx : List Byte} (more : List Byte) {j : Nat} (h : j < rx.length) :
    byteAt (rx ++ more) j = byteAt rx j := by
  rw [byteAt, byteAt, List.getD_append _ _ _ _ h]

theorem getElem?_append_of_some {rx : List Byte} (more : List Byte) {j : Nat} {b : Byte} (h : rx[j]? = some b) :
    (rx ++ more)[j]? = some b := by
  rw [List.getElem?_append_left (length_gt_of_getElem? h), h]

/-- A row read within the buffer stays the same when its check still passes. -/
theorem ite_short_append {rx more : List Byte} {n : Nat} {row : List Byte → Instr} {i : Instr}
    (hrow : n ≤ rx.length → row (rx ++ more) = row rx)
    (h : (if rx.length < n then none else some (row rx)) = some i) :
    (if (rx ++ more).length < n then none else some (row (rx ++ more))) = some i := by
  rw [Option.ite_none_left_eq_some] at h ⊢
  obtain ⟨hlen, hi⟩ := h
  have hlen' : n ≤ rx.length := Nat.not_lt.mp hlen
  exact ⟨by rw [List.length_append]; omega, by rw [hrow hlen', hi]⟩

theorem decodeXbus_append {rx : List Byte} {i : Instr} (more : List Byte) (hlen : 5 ≤ rx.length)
    (h : decodeXbus rx = some i) : decodeXbus (rx ++ more) = some i := by
  obtain ⟨sub, hsub⟩ := exists_subOpcode hlen
  have hsub' := getElem?_append_of_some more hsub
  obtain rfl | rfl | rfl | rfl | hs := subOpcode_cases sub
  · rw [decodeXbus_status hsub] at h
    rw [decodeXbus_status hsub']
    exact ite_short_append (row := fun l => statusRow (byteAt l 5))
      (fun hl => by simp only [byteAt_append more (show 5 < rx.length by omega)]) h
  · rw [decodeXbus_power hsub] at h
    rw [decodeXbus_power hsub']
    exact ite_short_append (row := fun l => powerRow (byteAt l 6))
      (fun hl => by simp only [byteAt_append more (show 6 < rx.length by omega)]) h
  · rw [decodeXbus_cvResult hsub] at h
    rw [decodeXbus_cvResult hsub']
    exact ite_short_append (row := fun l => .rxCvResult (be16 (byteAt l 6) (byteAt l 7)) (byteAt l 8))
      (fun hl => by
        have hread (j : Nat) (hj : j < 9) : byteAt (rx ++ more) j = byteAt rx j := byteAt_append more (by omega)
        simp only [hread, Nat.reduceLT]) h
  · rw [decodeXbus_locoInfo hsub] at h
    rw [decodeXbus_locoInfo hsub']
    exact ite_short_append (row := locoInfoRow)
      (fun hl => by
        have hread (j : Nat) (hj : j < 13) : byteAt (rx ++ more) j = byteAt rx j := byteAt_append more (by omega)
        simp only [locoInfoRow, hread, Nat.reduceLT]) h
  · rwa [decodeXbus_other hsub' hs, ← decodeXbus_other hsub hs]

/-- Settles O42: every class reads below the length it was checked for. -/
theorem excessBytesIgnored : Obligations.ExcessBytesIgnored := by
  intro rx more i h
  obtain ⟨-, hd⟩ | ⟨g, hg, hne, hd⟩ | ⟨hg, hlen, hd⟩ := decodeFrame_dispatch rx
  · rw [hd] at h
    cases h
  · rwa [decodeFrame_group (getElem?_append_of_some more hg) hne, ← hd]
  · rw [decodeFrame_xbus (by rw [List.length_append]; omega) (getElem?_append_of_some more hg)]
    exact decodeXbus_append more hlen (hd ▸ h)

theorem getElem?_set_of_some {rx : List Byte} {i j : Nat} {b : Byte} (v : Byte) (h : rx[j]? = some b)
    (hne : i ≠ j) : (rx.set i v)[j]? = some b := by rw [List.getElem?_set_ne hne, h]

/-- Bits below the part that two bytes share are the same. -/
theorem getLsbD_eq_of_extractLsb'_eq {n k : Nat} {a b : Byte} (h : a.extractLsb' 0 n = b.extractLsb' 0 n)
    (hk : k < n) : a.getLsbD k = b.getLsbD k := by
  simpa [hk] using congrArg (·.getLsbD k) h

theorem extractLsb'_eq_of_extractLsb'_eq {n m : Nat} {a b : Byte} (h : a.extractLsb' 0 n = b.extractLsb' 0 n)
    (hm : m ≤ n) : a.extractLsb' 0 m = b.extractLsb' 0 m := by
  apply BitVec.eq_of_getLsbD_eq
  intro k hk
  simpa [hk] using getLsbD_eq_of_extractLsb'_eq h (Nat.lt_of_lt_of_le hk hm)

theorem byteAt_set_same {rx : List Byte} {i : Nat} {old : Byte} (v : Byte) (h : rx[i]? = some old) :
    byteAt (rx.set i v) i = v :=
  byteAt_eq (List.getElem?_set_self (length_gt_of_getElem? h))

/-- A change of one byte that leaves the fields of a locomotive-information buffer alone is not seen. -/
theorem decodeFrame_set_locoInfo {rx : List Byte} {i : Nat} (v : Byte) (hg : rx[2]? = some 0x40)
    (hsub : rx[4]? = some 0xEF) (hi : 4 < i) (hrow : locoInfoRow (rx.set i v) = locoInfoRow rx) :
    decodeFrame (rx.set i v) = decodeFrame rx := by
  have hlen := length_gt_of_getElem? hsub
  rw [decodeFrame_xbus (by rw [List.length_set]; omega) (getElem?_set_of_some v hg (by omega)),
    decodeFrame_xbus (by omega) hg, decodeXbus_locoInfo (getElem?_set_of_some v hsub (by omega)),
    decodeXbus_locoInfo hsub, List.length_set, hrow]

/-- Settles O44: the equations of the three classes do not mention these fields. -/
theorem unreadFieldsIgnored : Obligations.UnreadFieldsIgnored := by
  refine ⟨fun rx v hg hsub => ?_, fun rx old v hg hsub h7 hlow => ?_, fun rx old v hg hsub h9 hlow => ?_⟩
  · have hread {j : Nat} (hj : 5 ≠ j) : byteAt (rx.set 5 v) j = byteAt rx j := byteAt_set_of_ne rx v hj
    have hlen : 4 < rx.length := hsub.elim length_gt_of_getElem? length_gt_of_getElem?
    rw [decodeFrame_xbus (by rw [List.length_set]; omega) (getElem?_set_of_some v hg (by decide)),
      decodeFrame_xbus (by omega) hg]
    obtain hsub | hsub := hsub
    · rw [decodeXbus_power (getElem?_set_of_some v hsub (by decide)), decodeXbus_power hsub, List.length_set,
        hread (by decide)]
    · rw [decodeXbus_cvResult (getElem?_set_of_some v hsub (by decide)), decodeXbus_cvResult hsub, List.length_set,
        hread (by decide), hread (by decide), hread (by decide)]
  · refine decodeFrame_set_locoInfo v hg hsub (by decide) ?_
    have hread {j : Nat} (hj : 7 ≠ j) : byteAt (rx.set 7 v) j = byteAt rx j := byteAt_set_of_ne rx v hj
    have hmode := extractLsb'_eq_of_extractLsb'_eq hlow (show 3 ≤ 4 by decide)
    have hocc := getLsbD_eq_of_extractLsb'_eq hlow (show 3 < 4 by decide)
    simp only [locoInfoRow, hread, byteAt_set_same v h7, byteAt_eq h7, hmode, hocc, ne_eq, Nat.reduceEqDiff,
      not_false_eq_true]
  · refine decodeFrame_set_locoInfo v hg hsub (by decide) ?_
    have hread {j : Nat} (hj : 9 ≠ j) : byteAt (rx.set 9 v) j = byteAt rx j := byteAt_set_of_ne rx v hj
    have hfunc := extractLsb'_eq_of_extractLsb'_eq hlow (show 4 ≤ 5 by decide)
    have hlight := getLsbD_eq_of_extractLsb'_eq hlow (show 4 < 5 by decide)
    simp only [locoInfoRow, hread, byteAt_set_same v h9, byteAt_eq h9, hfunc, hlight, ne_eq, Nat.reduceEqDiff,
      not_false_eq_true]

end Sys2Proof
end

section
/-! SUPPORT. Proofs of the statements on composing and pulling: the frame byte by byte, the two refusals, the checksum,
the pull and the life of the ready flag (40_frame_composer.md). -/

namespace Sys2Proof.Machine

/-! COMPOSE and its two refusals (R111). -/

theorem compose_emptyChecksum (group : Byte) (s : State) : compose group [] true s = refuse .eEmptyCs s := rfl

theorem compose_overflow {group : Byte} {payload : List Byte} {cs : Bool} {s : State}
    (he : ¬ (cs = true ∧ payload = [])) (hl : s.cfg.outbufSize.toNat < frameLength payload cs) :
    compose group payload cs s = refuse .eOverflow s := by
  rw [compose, if_neg he, if_pos hl]

theorem not_emptyChecksum_of_plain (payload : List Byte) : ¬ (false = true ∧ payload = []) := fun h => nomatch h.1

theorem not_emptyChecksum_of_cons (cs : Bool) (b : Byte) (bs : List Byte) : ¬ (cs = true ∧ b :: bs = []) :=
  fun h => nomatch h.2

theorem frameBytes_plain (group : Byte) (payload : List Byte) :
    frameBytes group payload false = [BitVec.ofNat 8 (4 + payload.length), 0x00, group, 0x00] ++ payload := by
  simp [frameBytes, frameLength, trailer]

theorem frameBytes_checksummed (group b : Byte) (bs : List Byte) :
    frameBytes group (b :: bs) true =
      [BitVec.ofNat 8 (4 + (bs.length + 1) + 1), 0x00, group, 0x00] ++ (b :: bs) ++ [xorFold b bs] := rfl

/-- Settles O11: the port is read as driven, and the frame fits, so neither refusal applies. -/
theorem composeBuildsFrame : Obligations.ComposeBuildsFrame := by
  refine ⟨fun fill p hcode hn => ?_, fun group payload s hfit => ?_, fun group b bs s hfit => ?_⟩
  · rw [decode_compose fill hcode, drivenBytes_of_le fill hn]
  · rw [← frameBytes_plain]
    exact compose_composed (not_emptyChecksum_of_plain payload) hfit
  · rw [← xorFold_eq_foldl, ← frameBytes_checksummed]
    exact compose_composed (not_emptyChecksum_of_cons true b bs) hfit

/-- The answer of a compose tells which of its three branches was taken. -/
theorem compose_response {group : Byte} {payload : List Byte} {cs : Bool} {s t : State}
    (h : compose group payload cs s = .next t) :
    t.response = some (.status (if cs = true ∧ payload = [] then .eEmptyCs
      else if s.cfg.outbufSize.toNat < frameLength payload cs then .eOverflow else .ok)) := by
  simp only [compose, refuse] at h
  split at h
  next he => rw [if_pos he, ← Host.Outcome.next.inj h, State.respond_response]
  next he =>
    rw [if_neg he]
    split at h
    next hl => rw [if_pos hl, ← Host.Outcome.next.inj h, State.respond_response]
    next hl => rw [if_neg hl, ← Host.Outcome.next.inj h, State.respond_response]

/-- Settles O12: the refusals as equations, and the answer by its branch. -/
theorem composeRefusals : Obligations.ComposeRefusals := by
  refine ⟨compose_emptyChecksum, fun group payload s => compose_overflow (not_emptyChecksum_of_plain payload),
    fun group b bs s => compose_overflow (not_emptyChecksum_of_cons true b bs), fun group payload cs s t h => ?_⟩
  rw [compose_response h, frameLength]
  by_cases he : cs = true ∧ payload = []
  · simp [he]
  · by_cases hl : s.cfg.outbufSize.toNat < 4 + payload.length + cs.toNat
    · simp [he, hl]
    · simp [he, hl]

/-- Settles O13: the fold is by its first byte and by its last, and COMPOSE puts it behind the payload. -/
theorem checksumIsXorOfPayload : Obligations.ChecksumIsXorOfPayload := by
  refine ⟨fun _ => rfl, fun b c bs => List.foldl_append, xorFold_eq_foldl, fun group b bs s hfit => ?_,
    compose_emptyChecksum, rfl, rfl, rfl⟩
  obtain ⟨t, ht, hc⟩ := compose_composed (group := group) (not_emptyChecksum_of_cons true b bs) hfit
  have hlast : (frameBytes group (b :: bs) true)[4 + (bs.length + 1)]? = some (xorFold b bs) := by
    have hbefore (l : Byte) : ([l, 0x00, group, 0x00] ++ (b :: bs)).length = 4 + (bs.length + 1) := by
      rw [List.length_append]
      rfl
    rw [frameBytes_checksummed, List.getElem?_append_right (hbefore _).le, hbefore, Nat.sub_self]
    rfl
  exact ⟨t, ht, (hc.bytes _ (List.getElem?_eq_some_iff.mp hlast).1).trans hlast⟩

/-! PULL (R112). -/

/-- A pull with nothing pending answers empty and changes nothing else. -/
theorem exec_pull_empty {s : State} (h : s.txReady = false) :
    exec .pull s = .next { s with response := some (.pull .ok false 0 []) } := pullFrame_empty h

/-- Settles O14, by the two answers of a pull. -/
theorem pullHandsOverOnce : Obligations.PullHandsOverOnce :=
  ⟨fun fill _ => decode_pull fill, fun _ _ hready hlen hrange hread => pullFrame_pending hready hlen hread hrange,
    fun _ => exec_pull_empty⟩

/-- A read that runs over the end of `TXBUF` stops there, when every byte before the end is written. -/
theorem readTxBytes_over_end {s : State} {i n : Nat} (hi : i ≤ s.cfg.outbufSize.toNat)
    (hn : s.cfg.outbufSize.toNat < i + n)
    (hw : ∀ k, k < s.cfg.outbufSize.toNat → (Memory.read s.txbuf k).isSome) :
    readTxBytes s i n = .error .txbufRange := by
  induction n generalizing i with
  | zero => omega
  | succ n ih =>
    by_cases hin : i < s.cfg.outbufSize.toNat
    · obtain ⟨b, hb⟩ := Option.isSome_iff_exists.mp (hw i hin)
      have hread : readTx s i = .ok b := by simp only [readTx, if_pos hin, hb]
      simp only [readTxBytes, hread, ih hin (by omega)]
    · have hread : readTx s i = .error .txbufRange := by rw [readTx, if_neg hin]
      simp only [readTxBytes, hread]

/-- Settles O15. -/
theorem pullOutOfRangeFaults : Obligations.PullOutOfRangeFaults := fun s hready hlen hw => by
  have h := readTxBytes_over_end (Nat.zero_le _) (by rwa [Nat.zero_add]) hw
  show pullFrame s = _
  simp only [pullFrame, hready, if_true, h]

/-- A composed frame that is in range is what the next pull hands over. -/
theorem Composed.pull {s t : State} {f : List Byte} (h : Composed s t f) (hmax : f.length ≤ s.cfg.outbufSize.toNat) :
    exec .pull t = .next (t.clearReady.respond (.pull .ok true t.txLen f)) :=
  pullFrame_pending h.ready h.len h.bytes (by rwa [h.surround.cfg])

/-! What a command that composes does over every state of a configuration. -/

/-- A command that composes is refused with one status, or stores one frame, whatever else the state holds. -/
theorem composes_uniform {i : Instr} (s : State) (h : composes i = true) :
    (∃ st, st ≠ .ok ∧ ∀ s' : State, s'.cfg = s.cfg → exec i s' = refuse st s') ∨
    ∃ f, f.length ≤ s.cfg.outbufSize.toNat ∧
      ∀ s' : State, s'.cfg = s.cfg → exec i s' = .next (((s'.storeFrame f).raiseReady).respond (.status .ok)) := by
  obtain hr | ⟨g, p, cs, hc⟩ := composes_cases s h
  · exact .inl hr
  by_cases he : cs = true ∧ p = []
  · obtain ⟨rfl, rfl⟩ := he
    exact .inl ⟨.eEmptyCs, by decide, hc⟩
  by_cases hl : s.cfg.outbufSize.toNat < frameLength p cs
  · exact .inl ⟨.eOverflow, by decide, fun s' hs => (hc s' hs).trans (compose_overflow he (hs ▸ hl))⟩
  · have hl := Nat.not_lt.mp hl
    exact .inr ⟨frameBytes g p cs, by rwa [length_frameBytes g he],
      fun s' hs => (hc s' hs).trans (compose_accepted he (hs ▸ hl))⟩

/-- No effect of an instruction touches the tables, the parameters or the host's list. -/
theorem Effect.surround {i : Instr} {s t : State} (h : Effect i s t) : SameSurround s t := by
  cases h <;> exact ⟨rfl, rfl⟩

/-- Settles O16. The second command stores one frame over every state of the configuration, which the first left alone;
that frame is what the pull reads, and the pull clears the flag. -/
theorem onlySecondFrameRetrievable : Obligations.OnlySecondFrameRetrievable := by
  intro i j s t u hi hj hs ht hu hok
  have hcfg : t.cfg = s.cfg := (effect_of_exec hs).surround.cfg
  obtain ⟨st, hst, hexec⟩ | ⟨f, hmax, hexec⟩ := composes_uniform s hj
  · obtain rfl : t.respond (.status st) = u := by simpa [refuse] using (hexec t hcfg).symm.trans hu
    simp [hst] at hok
  have hcomposed (s' : State) : Composed s' (((s'.storeFrame f).raiseReady).respond (.status .ok)) f := by
    have := s.cfg.outbufSize.isLt
    exact composed_storeFrame s' (by omega)
  obtain rfl : ((t.storeFrame f).raiseReady).respond (.status .ok) = u := by simpa using (hexec t hcfg).symm.trans hu
  exact ⟨f, _, fun s' hs' => ⟨_, hexec s' hs', hcomposed s'⟩, hcomposed t, (hcomposed t).pull (by rwa [hcfg]), rfl,
    exec_pull_empty rfl⟩

/-- Settles O17, by the effects: a stored frame raises the flag, a pull clears it, and no other effect writes it. -/
theorem readyFlagLife : Obligations.ReadyFlagLife := by
  intro i s t h
  cases effect_of_exec h with
  | refused st hi hst => simp [hi, hst, ne_pull_of_composes hi]
  | stored f hi => simp [hi, ne_pull_of_composes hi]
  | pulledNothing hi hready => simp [hi, composes, hready]
  | pulled data hi => simp [hi, composes]
  | accessed r hi => simp [not_composes_of_accesses hi, ne_pull_of_accesses hi]
  | answered st ev hi => simp [composes_of_not_hostSide hi, ne_pull_of_not_hostSide hi]
  | wroteCv c hi => simp [composes_of_not_hostSide hi, ne_pull_of_not_hostSide hi]
  | wroteLoco c n hi => simp [composes_of_not_hostSide hi, ne_pull_of_not_hostSide hi]

/-! Composing twice (20_memory.md R56). -/

/-- In canonical form no index below the first is written. -/
theorem Memory.read_of_lt_head {c : Host.Cell} {m : Memory} {i : Nat} (h : Memory.wf (c :: m)) (hi : i < c.1) :
    Memory.read (c :: m) i = none := by
  induction m generalizing c with
  | nil => rw [Memory.read_cons, if_neg (by omega), Memory.read_nil]
  | cons d m ih =>
    obtain ⟨hc, hm⟩ := List.pairwise_cons.mp h
    have hd : c.1 < d.1 := hc d List.mem_cons_self
    rw [Memory.read_cons, if_neg (by omega), ih hm (by omega)]

/-- Writing the byte that is there changes nothing. -/
theorem Memory.write_of_read {m : Memory} {i : Nat} {v : Byte} (h : Memory.wf m) (hr : Memory.read m i = some v) :
    Memory.write m i v = m := by
  induction m with
  | nil => cases hr
  | cons c m ih =>
    rw [Memory.write]
    split
    next hlt => rw [Memory.read_of_lt_head h hlt] at hr; cases hr
    next =>
      split
      next heq =>
        rw [Memory.read_cons, if_pos heq.symm] at hr
        rw [heq, ← Option.some.inj hr]
      next hne =>
        rw [Memory.read_cons, if_neg (Ne.symm hne)] at hr
        rw [ih (List.pairwise_cons.mp h).2 hr]

/-- Writing the bytes that are there changes nothing. -/
theorem Memory.writeBytes_of_read {m : Memory} {i : Nat} {bs : List Byte} (h : Memory.wf m)
    (hr : ∀ k, k < bs.length → Memory.read m (i + k) = bs[k]?) : Memory.writeBytes m i bs = m := by
  induction bs generalizing i with
  | nil => rfl
  | cons b bs ih =>
    have hb : Memory.read m i = some b := hr 0 (Nat.succ_pos _)
    rw [Memory.writeBytes, Memory.write_of_read h hb]
    refine ih fun k hk => ?_
    rw [show i + 1 + k = i + (k + 1) by omega]
    exact hr (k + 1) (Nat.succ_lt_succ hk)

/-- Storing a frame twice is storing it once. -/
theorem Memory.writeBytes_twice {m : Memory} (i : Nat) (bs : List Byte) (h : Memory.wf m) :
    Memory.writeBytes (Memory.writeBytes m i bs) i bs = Memory.writeBytes m i bs := by
  refine Memory.writeBytes_of_read (Memory.writeBytes_wf i bs h) fun k hk => ?_
  rw [Memory.read_writeBytes, if_pos hk]

/-- Settles O18: the configuration is the same, so the second time the command is refused alike or stores the same
frame over itself. -/
theorem composeIdempotent : Obligations.ComposeIdempotent := by
  intro i s t hs hi h
  have hcfg : t.cfg = s.cfg := (effect_of_exec h).surround.cfg
  obtain ⟨st, -, hexec⟩ | ⟨f, -, hexec⟩ := composes_uniform s hi <;> rw [hexec t hcfg]
  · obtain rfl : s.respond (.status st) = t := by simpa [refuse] using (hexec s rfl).symm.trans h
    rfl
  · obtain rfl : ((s.storeFrame f).raiseReady).respond (.status .ok) = t := by
      simpa using (hexec s rfl).symm.trans h
    have htwice := Memory.writeBytes_twice 0 f hs.canonical
    simp only [State.storeFrame, State.raiseReady, State.respond, htwice]

end Sys2Proof.Machine
end

section
/-! SUPPORT. Proofs of the statements on the eleven named operations: the frame of each, its refusals, and the COMPOSE
it expands to (41_compose_operations.md, 30_encoding.md R101). -/

namespace Sys2Proof.Machine

/-- A command that expands to a short enough COMPOSE with a payload leaves that frame, in every admissible
configuration: the smallest `OUTBUF_SIZE` is 22 (92_eei_decisions.md D6). -/
theorem composed_of_expansion {i : Instr} {s : State} {group b : Byte} {bs f : List Byte} {cs : Bool}
    (hexec : exec i s = compose group (b :: bs) cs s) (hok : s.cfg.Ok) (hl : bs.length ≤ 16)
    (hf : frameBytes group (b :: bs) cs = f) : ∃ t, exec i s = .next t ∧ Composed s t f := by
  obtain ⟨hsize, -⟩ := hok
  have hfit : frameLength (b :: bs) cs ≤ s.cfg.outbufSize.toNat := by
    have := cs.toNat_le
    rw [frameLength, List.length_cons]
    omega
  rw [hexec, ← hf]
  exact compose_composed (not_emptyChecksum_of_cons cs b bs) hfit

/-! The expansions that no operand can refuse (30_encoding.md R92, R101). -/

section
variable (s : State)

theorem exec_getStatus : exec .getStatus s = compose 0x40 [0x21, 0x24] true s := rfl

theorem exec_trackOff : exec .trackOff s = compose 0x40 [0x21, 0x80] true s := rfl

theorem exec_trackOn : exec .trackOn s = compose 0x40 [0x21, 0x81] true s := rfl

theorem exec_getFwVersion : exec .getFwVersion s = compose 0x40 [0xF1, 0x0A] true s := rfl

theorem exec_setBcast (flags : BitVec 32) :
    exec (.setBcast flags) s =
      compose 0x50 [flags.extractLsb' 0 8, flags.extractLsb' 8 8, flags.extractLsb' 16 8, flags.extractLsb' 24 8]
        false s := rfl

theorem exec_getLocoInfo (addr : BitVec 14) :
    exec (.getLocoInfo addr) s = compose 0x40 [0xE3, 0xF0, hiByte (toWire addr), loByte (toWire addr)] true s := rfl

theorem exec_cvRead (cv : BitVec 16) :
    exec (.cvRead cv) s = compose 0x40 [0x23, 0x11, hiByte (cvToWire cv), loByte (cvToWire cv)] true s := rfl

theorem exec_cvWrite (cv : BitVec 16) (val : Byte) :
    exec (.cvWrite cv val) s = compose 0x40 [0x24, 0x12, hiByte (cvToWire cv), loByte (cvToWire cv), val] true s :=
  rfl

end

/-- Settles O19: each frame is its operation's expansion. -/
theorem constantRequests : Obligations.ConstantRequests :=
  ⟨fun fill _ => decode_getStatus fill, fun fill _ => decode_trackOff fill, fun fill _ => decode_trackOn fill,
    fun fill _ => decode_getFwVersion fill, fun s hok =>
      ⟨composed_of_expansion (exec_getStatus s) hok (by simp) rfl,
        composed_of_expansion (exec_trackOff s) hok (by simp) rfl,
        composed_of_expansion (exec_trackOn s) hok (by simp) rfl,
        composed_of_expansion (exec_getFwVersion s) hok (by simp) rfl⟩⟩

/-- A byte of a wide operand as a number. -/
theorem extractLsb'_eq_ofNat {n : Nat} (x : BitVec n) (k : Nat) :
    x.extractLsb' k 8 = BitVec.ofNat 8 (x.toNat / 2 ^ k) := by
  rw [BitVec.extractLsb', Nat.shiftRight_eq_div_pow]

/-- Settles O20. -/
theorem setBcastFrame : Obligations.SetBcastFrame := by
  refine ⟨fun fill _ => decode_setBcast fill, fun flags s hok =>
    composed_of_expansion (exec_setBcast s flags) hok (by simp) ?_⟩
  rw [frameBytes_plain, extractLsb'_eq_ofNat, extractLsb'_eq_ofNat, extractLsb'_eq_ofNat, extractLsb'_eq_ofNat,
    pow_zero, Nat.div_one]
  rfl

/-- Settles O21. -/
theorem getLocoInfoFrame : Obligations.GetLocoInfoFrame :=
  ⟨fun fill _ => decode_getLocoInfo fill, fun addr s hok =>
    composed_of_expansion (exec_getLocoInfo s addr) hok (by simp) rfl⟩

/-! SET_LOCO_DRIVE (R136). -/

/-- A packed speed makes SET_LOCO_DRIVE the COMPOSE of its frame. -/
theorem exec_setLocoDrive_of_ok {addr : BitVec 14} {steps : StepMode} {speed v : BitVec 7} {dir : Bool} {op : Byte}
    {s : State} (hop : stepOpcode steps = some op) (hv : packSpeed s.cfg steps speed = .ok v) :
    exec (.setLocoDrive addr steps speed dir) s =
      compose 0x40 [0xE4, op, hiByte (toWire addr), loByte (toWire addr), speedByte dir v] true s := by
  simp only [exec, execSetLocoDrive, hop, hv]

theorem exec_setLocoDrive_of_error {addr : BitVec 14} {steps : StepMode} {speed : BitVec 7} {dir : Bool} {op : Byte}
    {st : Status} {s : State} (hop : stepOpcode steps = some op) (hv : packSpeed s.cfg steps speed = .error st) :
    exec (.setLocoDrive addr steps speed dir) s = refuse st s := by
  simp only [exec, execSetLocoDrive, hop, hv]

theorem packSpeed_steps14 (c : Config) {speed : BitVec 7} (h : speed ≠ 127) :
    packSpeed c .steps14 speed = .ok (if speed = 0 then 0 else speed + 1) := by
  rw [packSpeed, if_neg h]

theorem packSpeed_steps28 (c : Config) {speed : BitVec 7} (h : speed.toNat < 29) :
    packSpeed c .steps28 speed = .ok ((c.fwd28[speed.toNat]).setWidth 7) := by
  simp only [packSpeed, Vector.getElem?_eq_getElem h]

theorem packSpeed_steps28_error (c : Config) {speed : BitVec 7} (h : 28 < speed.toNat) :
    packSpeed c .steps28 speed = .error .eSpeed := by
  simp only [packSpeed, Vector.getElem?_eq_none (show 29 ≤ speed.toNat from h)]

/-- The 14-step code as a number; 127 is the one speed that has none. -/
theorem code14_toNat {speed : BitVec 7} (h : speed ≠ 127) :
    (if speed = 0 then 0 else speed + 1 : BitVec 7).toNat = if speed.toNat = 0 then 0 else speed.toNat + 1 := by
  have hmax : speed.toNat ≠ 127 := fun hn => h (BitVec.eq_of_toNat_eq hn)
  have hzero : speed = 0 ↔ speed.toNat = 0 := BitVec.toNat_inj.symm
  by_cases h0 : speed.toNat = 0
  · rw [if_pos (hzero.mpr h0), if_pos h0]
    rfl
  · rw [if_neg (mt hzero.mp h0), if_neg h0, BitVec.toNat_add]
    exact Nat.mod_eq_of_lt (show speed.toNat + 1 < 128 by omega)

/-- The 28-step code fits the speed byte, as an admissible table holds codes of 5 bits. -/
theorem code28_toNat {c : Config} (hok : c.Ok) {n : Nat} (h : n < 29) :
    ((c.fwd28[n]).setWidth 7).toNat = (c.fwd28[n]).toNat := by
  have := fwd28_lt hok h
  rw [BitVec.toNat_setWidth, Nat.mod_eq_of_lt (by omega)]

/-- The frame of a drive command whose speed is packed, with its speed byte as a number. -/
theorem setLocoDrive_composed {addr : BitVec 14} {steps : StepMode} {speed v : BitVec 7} {dir : Bool} {op : Byte}
    {s : State} {n : Nat} (hok : s.cfg.Ok) (hop : stepOpcode steps = some op)
    (hv : packSpeed s.cfg steps speed = .ok v) (hn : v.toNat = n) :
    ∃ (sb : Byte) (t : State), exec (.setLocoDrive addr steps speed dir) s = .next t ∧
      sb.toNat = dir.toNat * 128 + n ∧
      Composed s t [0x0A, 0x00, 0x40, 0x00, 0xE4, op, hiByte (toWire addr), loByte (toWire addr), sb,
        0xE4 ^^^ op ^^^ hiByte (toWire addr) ^^^ loByte (toWire addr) ^^^ sb] := by
  obtain ⟨t, ht, hc⟩ := composed_of_expansion (exec_setLocoDrive_of_ok hop hv) hok (by simp) rfl
  exact ⟨speedByte dir v, t, ht, by rw [speedByte_toNat, hn], hc⟩

/-- Settles O22: the refusals by what PackSpeed refuses, and a frame in each mode that it packs. -/
theorem setLocoDriveFrameOrRefusal : Obligations.SetLocoDriveFrameOrRefusal :=
  ⟨fun fill _ => decode_setLocoDrive fill, ⟨rfl, rfl, rfl, rfl⟩, fun _ _ _ _ => rfl,
    fun _ _ _ => exec_setLocoDrive_of_error rfl rfl,
    fun _ _ _ s h => exec_setLocoDrive_of_error rfl (packSpeed_steps28_error s.cfg h),
    fun _ _ _ s hok h => setLocoDrive_composed hok rfl (packSpeed_steps14 s.cfg h) (code14_toNat h),
    fun _ _ _ s hok h => setLocoDrive_composed hok rfl (packSpeed_steps28 s.cfg h) (code28_toNat hok h),
    fun _ _ _ _ hok => setLocoDrive_composed hok rfl rfl rfl⟩

/-! SET_LOCO_FUNC (R137) and SET_TURNOUT (R138). -/

theorem exec_setLocoFunc_of_some {addr : BitVec 14} {fn : BitVec 6} {mode : FuncMode} {fb : Byte}
    (h : funcByte mode fn = some fb) (s : State) :
    exec (.setLocoFunc addr fn mode) s =
      compose 0x40 [0xE4, 0xF8, hiByte (toWire addr), loByte (toWire addr), fb] true s := by
  simp only [exec, execSetLocoFunc, h]

theorem exec_setTurnout_of_some {taddr : BitVec 16} {tdir : TurnoutDir} {dc : Byte}
    (h : turnoutByte tdir = some dc) (s : State) :
    exec (.setTurnout taddr tdir) s = compose 0x40 [0x53, hiByte taddr, loByte taddr, dc] true s := by
  simp only [exec, execSetTurnout, h]

/-- The function byte as a number (30_encoding.md R88). -/
theorem funcByte_toNat {mode : FuncMode} (h : mode ≠ .reserved) (fn : BitVec 6) :
    ∃ fb, funcByte mode fn = some fb ∧ fb.toNat = (funcModeCode mode).toNat * 64 + fn.toNat := by
  have happend (c : BitVec 2) : (c ++ fn : Byte).toNat = c.toNat * 64 + fn.toNat := by
    rw [BitVec.toNat_append, ← Nat.shiftLeft_add_eq_or_of_lt fn.isLt, Nat.shiftLeft_eq]
  cases mode with
  | off => exact ⟨_, rfl, happend 0b00⟩
  | on => exact ⟨_, rfl, happend 0b01⟩
  | toggle => exact ⟨_, rfl, happend 0b10⟩
  | reserved => exact absurd rfl h

/-- Settles O23. -/
theorem setLocoFuncFrameOrRefusal : Obligations.SetLocoFuncFrameOrRefusal := by
  refine ⟨fun fill _ => decode_setLocoFunc fill, ⟨rfl, rfl, rfl, rfl⟩, fun _ _ _ => rfl,
    fun addr fn mode s hok hmode => ?_⟩
  obtain ⟨fb, hfb, hnat⟩ := funcByte_toNat hmode fn
  obtain ⟨t, ht, hc⟩ := composed_of_expansion (exec_setLocoFunc_of_some hfb s) hok (by simp) rfl
  exact ⟨fb, t, ht, by cases mode <;> exact hnat, hc⟩

/-- Settles O24: the three directions, over the bytes of the raw address. -/
theorem setTurnoutFrameOrRefusal : Obligations.SetTurnoutFrameOrRefusal := by
  refine ⟨fun fill _ => decode_setTurnout fill, ⟨rfl, rfl, rfl, rfl⟩, fun _ _ => rfl,
    fun taddr tdir dc s hok hdir => ?_⟩
  have hdc : turnoutByte tdir = some dc := by
    simp only [List.mem_cons, List.not_mem_nil, or_false, Prod.mk.injEq] at hdir
    obtain ⟨rfl, rfl⟩ | ⟨rfl, rfl⟩ | ⟨rfl, rfl⟩ := hdir <;> rfl
  rw [← hiByte_eq_ofNat, ← loByte_eq_ofNat]
  exact composed_of_expansion (exec_setTurnout_of_some hdc s) hok (by simp) rfl

/-! CV_READ and CV_WRITE (R139, R140). -/

/-- The two wire bytes of a CV number, as a number (30_encoding.md R85). -/
theorem cvToWire_bytes_toNat (cv : BitVec 16) :
    (hiByte (cvToWire cv)).toNat * 256 + (loByte (cvToWire cv)).toNat = (cv.toNat + 65535) % 65536 := by
  rw [← be16_toNat, be16_hi_lo, cvToWire, BitVec.toNat_sub, Nat.add_comm]
  rfl

theorem cvWrite_composed (cv : BitVec 16) (val : Byte) {s : State} (hok : s.cfg.Ok) :
    ∃ t, exec (.cvWrite cv val) s = .next t ∧
      Composed s t [0x0A, 0x00, 0x40, 0x00, 0x24, 0x12, hiByte (cvToWire cv), loByte (cvToWire cv), val,
        0x24 ^^^ 0x12 ^^^ hiByte (cvToWire cv) ^^^ loByte (cvToWire cv) ^^^ val] :=
  composed_of_expansion (exec_cvWrite s cv val) hok (by simp) rfl

/-- Settles O25. -/
theorem cvFrames : Obligations.CvFrames :=
  ⟨fun fill _ => decode_cvRead fill, fun fill _ => decode_cvWrite fill, fun cv val s hok =>
    ⟨hiByte (cvToWire cv), loByte (cvToWire cv), cvToWire_bytes_toNat cv,
      composed_of_expansion (exec_cvRead s cv) hok (by simp) rfl, cvWrite_composed cv val hok⟩⟩

/-! The expansions (30_encoding.md R101). -/

/-- Four bytes put together are taken apart again. -/
theorem exec_setBcast_bytes (f0 f1 f2 f3 : Byte) (s : State) :
    exec (.setBcast (f3 ++ f2 ++ f1 ++ f0)) s = compose 0x50 [f0, f1, f2, f3] false s := by
  have h0 : (f3 ++ f2 ++ f1 ++ f0 : BitVec 32).extractLsb' 0 8 = f0 := extractLsb'_append_low _ f0
  have h1 : (f3 ++ f2 ++ f1 ++ f0 : BitVec 32).extractLsb' 8 8 = f1 := by
    rw [BitVec.extractLsb'_append_eq_of_le (Nat.le_refl 8)]
    exact extractLsb'_append_low _ f1
  have h2 : (f3 ++ f2 ++ f1 ++ f0 : BitVec 32).extractLsb' 16 8 = f2 := by
    rw [BitVec.extractLsb'_append_eq_of_le (by decide), BitVec.extractLsb'_append_eq_of_le (by decide)]
    exact extractLsb'_append_low _ f2
  have h3 : (f3 ++ f2 ++ f1 ++ f0 : BitVec 32).extractLsb' 24 8 = f3 := by
    rw [BitVec.extractLsb'_append_eq_of_le (by decide), BitVec.extractLsb'_append_eq_of_le (by decide),
      BitVec.extractLsb'_append_eq_of_le (by decide)]
    exact BitVec.extractLsb'_eq_self
  rw [exec_setBcast, h0, h1, h2, h3]

/-- Taking one off a number of which one was added gives the number back. -/
@[simp] theorem cvToWire_add_one (w : BitVec 16) : cvToWire (w + 1) = w := BitVec.add_sub_cancel w 1

/-- Settles O26. -/
theorem namedOperationsExpandToCompose : Obligations.NamedOperationsExpandToCompose := by
  refine fun s => ⟨exec_getStatus s, exec_trackOff s, exec_trackOn s, exec_getFwVersion s,
    fun f0 f1 f2 f3 => exec_setBcast_bytes f0 f1 f2 f3 s, exec_getLocoInfo s,
    fun _ _ _ _ _ _ hv hop => exec_setLocoDrive_of_ok hop hv, fun _ _ _ _ h => exec_setLocoFunc_of_some h s,
    fun hi lo _ _ h => ?_, fun hi lo => ?_, fun hi lo val => ?_⟩
  · rw [exec_setTurnout_of_some h, hiByte_be16, loByte_be16]
    rfl
  · rw [exec_cvRead, cvToWire_add_one, hiByte_be16, loByte_be16]
    rfl
  · rw [exec_cvWrite, cvToWire_add_one, hiByte_be16, loByte_be16]
    rfl

end Sys2Proof.Machine
end

section
/-! SUPPORT. Proofs of the statements on the operand transforms: the round trips of address and speed, and the default
tables (30_encoding.md R82, R84; 10_state.md R36 to R38). -/

namespace Sys2Proof.Machine

/-- L1 of 30_encoding.md R82. -/
@[simp] theorem fromWire_toWire (a : BitVec 14) : fromWire (toWire a) = a.setWidth 16 := by
  apply BitVec.eq_of_toNat_eq
  rw [fromWire_toNat, toWire_toNat, BitVec.toNat_setWidth]
  split <;> split <;> omega

/-- Settles O28, from the two transforms as numbers. -/
theorem addressRoundTrip : Obligations.AddressRoundTrip := by
  refine ⟨fromWire_toWire, fun w => ?_, rfl, rfl⟩
  have hfrom := fromWire_toNat w
  have hto := toWire_toNat ((fromWire w).setWidth 14)
  rw [BitVec.toNat_setWidth] at hto
  rw [← BitVec.toNat_inj, hto]
  by_cases h : 0xC000 ≤ w.toNat
  · rw [if_pos h] at hfrom
    split <;> omega
  · rw [if_neg h] at hfrom
    split <;> omega

/-! The speed, mode by mode (30_encoding.md R83, R84). -/

theorem unpackSpeed_packSpeed_steps14 {c : Config} {speed code : BitVec 7}
    (h : packSpeed c .steps14 speed = .ok code) : unpackSpeed c 0b000 code = (.steps14, some speed) := by
  by_cases hmax : speed = 127
  · simp [packSpeed, hmax] at h
  obtain rfl := Except.ok.inj ((packSpeed_steps14 c hmax).symm.trans h)
  have hspeed : (if (if speed = 0 then 0 else speed + 1 : BitVec 7) = 0 then 0
      else (if speed = 0 then 0 else speed + 1 : BitVec 7) - 1) = speed := by
    by_cases h0 : speed = 0
    · simp [h0]
    · have hne : speed + 1 ≠ 0 := fun hz => hmax (by rw [← BitVec.add_sub_cancel speed 1, hz]; rfl)
      rw [if_neg h0, if_neg hne, BitVec.add_sub_cancel]
  rw [unpackSpeed, if_pos rfl, hspeed]

/-- Over an admissible pair of tables the reverse table undoes the forward one (10_state.md R38 P3). -/
theorem unpackSpeed_packSpeed_steps28 {c : Config} (hok : c.Ok) {speed code : BitVec 7}
    (h : packSpeed c .steps28 speed = .ok code) : unpackSpeed c 0b010 code = (.steps28, some speed) := by
  by_cases hlt : speed.toNat < 29
  · obtain rfl := Except.ok.inj ((packSpeed_steps28 c hlt).symm.trans h)
    have ⟨_, _, _, hinverse, _⟩ := hok
    have hrev : c.rev28[(c.fwd28[speed.toNat]).toNat]? = some (BitVec.ofNat 8 speed.toNat) :=
      hinverse ⟨speed.toNat, hlt⟩
    have hspeed : (BitVec.ofNat 8 speed.toNat).setWidth 7 = speed := by
      apply BitVec.eq_of_toNat_eq
      rw [BitVec.toNat_setWidth, BitVec.toNat_ofNat]
      omega
    rw [unpackSpeed, if_neg (by decide), if_pos rfl, code28_toNat hok hlt, hrev, Option.map_some, hspeed]
  · simp [packSpeed_steps28_error c (show 28 < speed.toNat by omega)] at h

theorem unpackSpeed_packSpeed_steps128 {c : Config} {speed code : BitVec 7}
    (h : packSpeed c .steps128 speed = .ok code) : unpackSpeed c 0b100 code = (.steps128, some speed) := by
  obtain rfl : speed = code := Except.ok.inj h
  rfl

/-- Settles O29. -/
theorem speedRoundTrip : Obligations.SpeedRoundTrip := fun _ _ _ hok =>
  ⟨unpackSpeed_packSpeed_steps14, unpackSpeed_packSpeed_steps28 hok, unpackSpeed_packSpeed_steps128⟩

/-- Settles O30, by evaluating the 29 and 32 entries. -/
theorem defaultTablesAdmissible : Obligations.DefaultTablesAdmissible :=
  ⟨default_cfg_ok, rfl, by decide, by decide⟩

end Sys2Proof.Machine
end

section
/-! SUPPORT. Proofs of the statements on the frame decoder: PROCESS is its buffer's row, and what the row of each class
answers and writes (42_frame_decoder.md R150 to R158). -/

namespace Sys2Proof

/-! The row of a buffer, by the bytes of its class. -/

section
variable {rx : List Byte}

theorem decodeFrame_status {key : Byte} (hg : rx[2]? = some 0x40) (hsub : rx[4]? = some 0x61)
    (hkey : rx[5]? = some key) : decodeFrame rx = some (statusRow key) := by
  have hlen := length_gt_of_getElem? hkey
  rw [decodeFrame_xbus (by omega) hg, decodeXbus_status hsub, if_neg (by omega), byteAt_eq hkey]

theorem decodeFrame_status_short (hg : rx[2]? = some 0x40) (hsub : rx[4]? = some 0x61) (hlen : rx.length = 5) :
    decodeFrame rx = none := by
  rw [decodeFrame_xbus (by omega) hg, decodeXbus_status hsub, if_pos (by omega)]

theorem decodeFrame_cvResult {hi lo val : Byte} (hg : rx[2]? = some 0x40) (hsub : rx[4]? = some 0x64)
    (hhi : rx[6]? = some hi) (hlo : rx[7]? = some lo) (hval : rx[8]? = some val) :
    decodeFrame rx = some (.rxCvResult (be16 hi lo) val) := by
  have hlen := length_gt_of_getElem? hval
  rw [decodeFrame_xbus (by omega) hg, decodeXbus_cvResult hsub, if_neg (by omega), byteAt_eq hhi, byteAt_eq hlo,
    byteAt_eq hval]

theorem decodeFrame_other {sub : Byte} (hg : rx[2]? = some 0x40) (hsub : rx[4]? = some sub)
    (h : sub ∉ [(0x61 : Byte), 0x62, 0x64, 0xEF]) : decodeFrame rx = some (.rxXbusOther sub) := by
  rw [decodeFrame_xbus (length_gt_of_getElem? hsub) hg, decodeXbus_other hsub h]

end

namespace Machine

section
variable {rx : List Byte} (s : State)

/-- PROCESS branches as the decoder does, and replies where the decoder names the row. -/
theorem exec_process_eq_elim (rx : List Byte) :
    exec (.process rx) s = (decodeFrame rx).elim (truncatedFrame s) (exec · s) := by
  simp only [decodeFrame, decodeXbus, apply_ite (Option.elim · (truncatedFrame s) (exec · s)), Option.elim_none,
    Option.elim_some, exec_statusRow, exec_powerRow, exec_groupRow]
  rfl

theorem exec_process_of_some {i : Instr} (h : decodeFrame rx = some i) : exec (.process rx) s = exec i s := by
  rw [exec_process_eq_elim, h, Option.elim_some]

theorem exec_process_of_none (h : decodeFrame rx = none) : exec (.process rx) s = truncatedFrame s := by
  rw [exec_process_eq_elim, h, Option.elim_none]

end

/-- Settles O31. -/
theorem processRunsItsRow : Obligations.ProcessRunsItsRow := by
  intro rx s
  cases h : decodeFrame rx with
  | some i => exact exec_process_of_some s h
  | none => exact exec_process_of_none s h

/-- The event of a status reply, by its key. -/
theorem statusReply_eq_event (key : Byte) (s : State) :
    statusReply key s = event (if key = 0x00 then .trackOff else if key = 0x01 then .trackOn
      else if key = 0x02 then .progMode else if key = 0x13 then .cvNack else .unknown) s := by
  simp only [statusReply, apply_ite (event · s)]

/-- The status of a group's reply, by whether the group is recognised. -/
theorem groupReply_eq_reply (g : Byte) (s : State) :
    groupReply g s = reply (if g ∈ s.cfg.recognised then .ok else .rxFail) .noEvent s := by
  simp only [groupReply, apply_ite (reply · .noEvent s)]

/-- No row of a buffer that is long enough answers RX_TRUNC. -/
theorem row_response_ne_trunc {rx : List Byte} {i : Instr} {s t : State} (hrow : decodeFrame rx = some i)
    (h : exec i s = .next t) : t.response ≠ some (.process .rxTrunc .noEvent) := by
  obtain ⟨g, -, rfl⟩ | ⟨key, rfl⟩ | ⟨key, rfl⟩ | ⟨w, v, rfl⟩ | ⟨w, m, occ, v, dir, light, func, rfl⟩ | ⟨sub, -, rfl⟩ :=
    decodeFrame_cases hrow
  · rw [exec_groupRow] at h
    obtain ⟨-, hg⟩ | ⟨-, hg⟩ := groupReply_cases g s <;>
      (obtain rfl := Host.Outcome.next.inj (hg.symm.trans h); simp)
  · rw [exec_statusRow, statusReply_eq_event] at h
    obtain rfl := Host.Outcome.next.inj h
    simp
  · rw [exec_powerRow, powerReply_eq_event] at h
    obtain rfl := Host.Outcome.next.inj h
    simp
  · obtain rfl := Host.Outcome.next.inj h
    simp
  · obtain ⟨speed, n, hl, -⟩ := locoInfoReply_eq w m occ v dir light func s
    obtain rfl := Host.Outcome.next.inj (hl.symm.trans h)
    simp
  · obtain rfl := Host.Outcome.next.inj h
    simp

/-- Settles O32: the decoder finds no row exactly for these buffers, and no row answers as they do. -/
theorem shortBuffersAreTruncated : Obligations.ShortBuffersAreTruncated := by
  refine ⟨fun rx s h => exec_process_of_none s ((decodeFrame_eq_none_iff rx).mpr h), fun rx s t h ht => ?_,
    truncated_iff⟩
  cases hrow : decodeFrame rx with
  | none => simp [(decodeFrame_eq_none_iff rx).mp hrow] at h
  | some i => exact row_response_ne_trunc hrow ((exec_process_of_some s hrow).symm.trans ht)

/-- Settles O33. -/
theorem statusReplyEvents : Obligations.StatusReplyEvents := by
  refine ⟨fun _ => rfl, fun _ => rfl, fun _ => rfl, fun _ => rfl, fun key s hkey => ?_,
    fun rx key s _ hg hsub hrx => ?_, fun rx s hlen hg hsub => ?_⟩
  · simp only [List.mem_cons, List.not_mem_nil, or_false, not_or] at hkey
    obtain ⟨hoff, hon, hprog, hnack⟩ := hkey
    calc exec (.rxStatusOther key) s = statusReply key s := rfl
      _ = event .unknown s := by
        rw [statusReply_eq_event, if_neg hoff, if_neg hon, if_neg hprog, if_neg hnack]
  · calc exec (.process rx) s = exec (statusRow key) s := exec_process_of_some s (decodeFrame_status hg hsub hrx)
      _ = statusReply key s := exec_statusRow key s
      _ = _ := statusReply_eq_event key s
  · exact exec_process_of_none s (decodeFrame_status_short hg hsub hlen)

/-- Settles O35: the number on the wire is the two bytes, and one more is cached. -/
theorem cvResultWritesCache : Obligations.CvResultWritesCache := by
  refine ⟨fun _ _ _ => rfl, fun rx hi lo val s _ hg hsub hhi hlo hval => ?_⟩
  have hnum : be16 hi lo + 1 = BitVec.ofNat 16 (hi.toNat * 256 + lo.toNat + 1) := by
    apply BitVec.eq_of_toNat_eq
    rw [BitVec.toNat_add, be16_toNat, BitVec.toNat_ofNat]
    rfl
  rw [exec_process_of_some s (decodeFrame_cvResult hg hsub hhi hlo hval), ← hnum]
  rfl

/-- Settles O38. -/
theorem otherSubOpcodesAreUnknown : Obligations.OtherSubOpcodesAreUnknown :=
  ⟨fun _ _ => rfl, fun _ _ s _ hg hsub h => exec_process_of_some s (decodeFrame_other hg hsub h)⟩

/-! Groups other than 0x40 (R151, R152). -/

theorem groupReply_of_mem {g : Byte} {s : State} (h : g ∈ s.cfg.recognised) :
    groupReply g s = .next (s.respond (.process .ok .noEvent)) := by
  rw [groupReply_eq_reply, if_pos h, reply]

theorem groupReply_of_not_mem {g : Byte} {s : State} (h : g ∉ s.cfg.recognised) :
    groupReply g s = .next (s.respond (.process .rxFail .noEvent)) := by
  rw [groupReply_eq_reply, if_neg h, reply]

/-- PROCESS of a buffer of another group replies by the group byte. -/
theorem exec_process_group {rx : List Byte} {g : Byte} (hg : rx[2]? = some g) (hne : g ≠ 0x40) (s : State) :
    exec (.process rx) s = groupReply g s := by
  rw [exec_process_of_some s (decodeFrame_group hg hne), exec_groupRow]

/-- Settles O39. -/
theorem recognisedGroupsAcknowledged : Obligations.RecognisedGroupsAcknowledged :=
  ⟨fun _ _ s hrow hmem => (exec_of_mem_groupRows hrow s).trans (groupReply_of_mem hmem),
    fun _ _ hmem => groupReply_of_mem hmem,
    fun _ _ s _ hg hne hmem => (exec_process_group hg hne s).trans (groupReply_of_mem hmem)⟩

/-- Settles O40. -/
theorem unrecognisedGroupsFail : Obligations.UnrecognisedGroupsFail :=
  ⟨fun g s hmem => ⟨groupReply_of_not_mem hmem, fun _ => (exec_groupRow g s).trans (groupReply_of_not_mem hmem)⟩,
    fun _ _ s _ hg hne hmem => (exec_process_group hg hne s).trans (groupReply_of_not_mem hmem)⟩

/-- Settles O41: the default set is the groups of the table. -/
theorem defaultGroupRows : Obligations.DefaultGroupRows := by
  intro g s hcfg _
  have hset : s.cfg.recognised = Config.tableGroups := by rw [hcfg]; rfl
  rw [exec_groupRow, groupReply_eq_reply, hset]
  rfl

end Machine

end Sys2Proof
end

section
/-! SUPPORT. Proofs of the statements on the speed of the locomotive-information decode, and of the two round trips from
a composed frame to a cache (43_loco_info_decode.md R182, R187; 30_encoding.md R85). -/

namespace Sys2Proof.Machine

/-! The reply, by what the speed code unpacks to. -/

section
variable (w : BitVec 16) {m : BitVec 3} (occ : Bool) {v : BitVec 7} (dir light : Bool) (func : BitVec 28) {s : State}
  {steps : StepMode}

theorem exec_rxLocoInfo_of_speed {speed : BitVec 7} (h : unpackSpeed s.cfg m v = (steps, some speed)) :
    exec (.rxLocoInfo w m occ v dir light func) s =
      .next { s with
        loco := { addr := fromWire w, speed := speed, steps := steps, dir := dir, light := light, func := func,
                  occ := occ }
        response := some (.process .ok .locoInfo) } := by
  simp only [exec, execRxLocoInfo, locoInfoReply, h]
  rfl

theorem exec_rxLocoInfo_of_draw (h : unpackSpeed s.cfg m v = (steps, none)) :
    exec (.rxLocoInfo w m occ v dir light func) s =
      .next { s with
        loco := { addr := fromWire w, speed := Config.drawSpeed s.draws, steps := steps, dir := dir, light := light,
                  func := func, occ := occ }
        draws := s.draws + 1
        response := some (.process .ok .locoInfo) } := by
  simp only [exec, execRxLocoInfo, locoInfoReply, h]
  rfl

end

theorem unpackSpeed_steps28 (c : Config) (v : BitVec 7) :
    unpackSpeed c 0b010 v = (.steps28, (c.rev28[v.toNat]?).map (·.setWidth 7)) := rfl

theorem unpackSpeed_unknown (c : Config) {m : BitVec 3} (v : BitVec 7)
    (h : m ∈ [0b001#3, 0b011#3, 0b101#3, 0b110#3, 0b111#3]) : unpackSpeed c m v = (.unknown, none) := by
  simp only [List.mem_cons, List.not_mem_nil, or_false] at h
  obtain rfl | rfl | rfl | rfl | rfl := h <;> rfl

/-- Settles O37: the mode field and the code say what is unpacked, and where nothing is the speed is drawn. -/
theorem locoInfoSpeed : Obligations.LocoInfoSpeed := by
  intro w occ v dir light func s
  refine ⟨exec_rxLocoInfo_of_speed w occ dir light func rfl,
    fun h => exec_rxLocoInfo_of_speed w occ dir light func ?_,
    fun h => exec_rxLocoInfo_of_draw w occ dir light func ?_,
    exec_rxLocoInfo_of_speed w occ dir light func rfl,
    fun m h => exec_rxLocoInfo_of_draw w occ dir light func (unpackSpeed_unknown s.cfg v h)⟩
  · rw [unpackSpeed_steps28, Vector.getElem?_eq_getElem h, Option.map_some]
  · rw [unpackSpeed_steps28, Vector.getElem?_eq_none h, Option.map_none]

/-! From a drive frame to `loco.*` (43_loco_info_decode.md R187 (d)). -/

/-- The speed comes back under the mode field of its step mode. -/
theorem unpackSpeed_packSpeed {c : Config} (hok : c.Ok) {steps : StepMode} {speed code : BitVec 7} {m : BitVec 3}
    (hm : (steps, m.toNat) ∈ [(StepMode.steps14, 0), (.steps28, 2), (.steps128, 4)])
    (h : packSpeed c steps speed = .ok code) : unpackSpeed c m code = (steps, some speed) := by
  simp only [List.mem_cons, List.not_mem_nil, or_false, Prod.mk.injEq] at hm
  obtain ⟨rfl, hm⟩ | ⟨rfl, hm⟩ | ⟨rfl, hm⟩ := hm
  · obtain rfl : m = 0b000 := BitVec.eq_of_toNat_eq hm
    exact unpackSpeed_packSpeed_steps14 h
  · obtain rfl : m = 0b010 := BitVec.eq_of_toNat_eq hm
    exact unpackSpeed_packSpeed_steps28 hok h
  · obtain rfl : m = 0b100 := BitVec.eq_of_toNat_eq hm
    exact unpackSpeed_packSpeed_steps128 h

/-- A drive command that answers OK has packed its speed and left the frame with its address and speed bytes. -/
theorem setLocoDrive_ok {addr : BitVec 14} {steps : StepMode} {speed : BitVec 7} {dir : Bool} {s t : State}
    (hok : s.cfg.Ok) (h : exec (.setLocoDrive addr steps speed dir) s = .next t)
    (hresp : t.response = some (.status .ok)) :
    ∃ op v, packSpeed s.cfg steps speed = .ok v ∧
      Composed s t [0x0A, 0x00, 0x40, 0x00, 0xE4, op, hiByte (toWire addr), loByte (toWire addr), speedByte dir v,
        0xE4 ^^^ op ^^^ hiByte (toWire addr) ^^^ loByte (toWire addr) ^^^ speedByte dir v] := by
  cases hop : stepOpcode steps with
  | none =>
    obtain rfl : s.respond (.status .eSteps) = t := by simpa [exec, execSetLocoDrive, hop, refuse] using h
    simp at hresp
  | some op =>
    cases hv : packSpeed s.cfg steps speed with
    | error st =>
      obtain rfl := Host.Outcome.next.inj ((exec_setLocoDrive_of_error hop hv).symm.trans h)
      simp [packSpeed_error hv] at hresp
    | ok v =>
      obtain ⟨t', ht', hc⟩ := composed_of_expansion (exec_setLocoDrive_of_ok hop hv) hok (by simp) rfl
      obtain rfl := Host.Outcome.next.inj (ht'.symm.trans h)
      exact ⟨op, v, rfl, hc⟩

/-- Settles O45: the address bytes, the direction bit and the speed code are each undone on the way back. -/
theorem driveInfoRoundTrip : Obligations.DriveInfoRoundTrip := by
  intro addr steps speed dir s t rx b7 hok h hresp hlen hg hsub h5 h6 h7 h8 hmode
  obtain ⟨op, v, hv, hc⟩ := setLocoDrive_ok hok h hresp
  rw [hc.bytes 6 (by simp)] at h5
  rw [hc.bytes 7 (by simp)] at h6
  rw [hc.bytes 8 (by simp)] at h8
  have hm : (b7.extractLsb' 0 3).toNat = b7.toNat % 8 := by simp
  have hspeed : unpackSpeed t.cfg (b7.extractLsb' 0 3) ((speedByte dir v).extractLsb' 0 7) = (steps, some speed) := by
    rw [speedByte_code, hc.surround.cfg]
    exact unpackSpeed_packSpeed hok (hm ▸ hmode) hv
  have hexec : exec (.process rx) t = _ :=
    execProcess_locoInfo hlen hg hsub h5 h6 h7 h8 (getElem?_eq_byteAt (by omega)) (getElem?_eq_byteAt (by omega))
      (getElem?_eq_byteAt (by omega)) (getElem?_eq_byteAt (by omega)) t
  refine ⟨_, hexec.trans (exec_rxLocoInfo_of_speed _ _ _ _ _ hspeed), ?_, rfl, rfl, speedByte_dir dir v⟩
  rw [be16_hi_lo, fromWire_toWire]

/-! From a CV_WRITE frame to `cv.*` (30_encoding.md R85). -/

/-- Adding one to a number of which one was taken off gives the number back. -/
@[simp] theorem cvFromWire_cvToWire (cv : BitVec 16) : cvFromWire (cvToWire cv) = cv := BitVec.sub_add_cancel cv 1

/-- Settles O46. -/
theorem cvWriteResultRoundTrip : Obligations.CvWriteResultRoundTrip := by
  intro cv val s t rx hok h _ hg hsub h6 h7 h8
  obtain ⟨t', ht', hc⟩ := cvWrite_composed cv val hok
  obtain rfl := Host.Outcome.next.inj (ht'.symm.trans h)
  rw [hc.bytes 6 (by simp)] at h6
  rw [hc.bytes 7 (by simp)] at h7
  rw [hc.bytes 8 (by simp)] at h8
  calc exec (.process rx) t'
      = exec (.rxCvResult (be16 (hiByte (cvToWire cv)) (loByte (cvToWire cv))) val) t' :=
        exec_process_of_some t' (decodeFrame_cvResult hg hsub h6 h7 h8)
    _ = cvResultReply (cvToWire cv) val t' := by rw [be16_hi_lo]; rfl
    _ = _ := by rw [cvResultReply, cvFromWire_cvToWire]; rfl

end Sys2Proof.Machine
end

section
/-! SUPPORT. Proofs of the statements about every instruction: what it can answer, what it writes, and what it cannot
see (10_state.md R35, 60_exceptions.md R210 to R212). -/

namespace Sys2Proof.Machine

/-! What the effects leave alone. -/

section
variable {i : Instr} {s t : State}

theorem Effect.lib (h : Effect i s t) : t.lib = s.lib := by cases h <;> rfl

theorem Effect.loco (h : Effect i s t) (hne : t.response ≠ some (.process .ok .locoInfo)) : t.loco = s.loco := by
  cases h with
  | wroteLoco => exact absurd rfl hne
  | _ => rfl

theorem Effect.cv (h : Effect i s t) (hne : t.response ≠ some (.process .ok .cvResult)) : t.cv = s.cv := by
  cases h with
  | wroteCv => exact absurd rfl hne
  | _ => rfl

theorem Effect.sameCaches (h : Effect i s t) (hhost : hostSide i = true) : SameCaches s t := by
  cases h with
  | wroteCv c hi => simp [hhost] at hi
  | wroteLoco c n hi => simp [hhost] at hi
  | _ => exact ⟨rfl, rfl, rfl⟩

theorem Effect.sameOutbound (h : Effect i s t) (hhost : hostSide i = false) : SameOutbound s t := by
  cases h with
  | stored f hi => simp [composes_of_not_hostSide hhost] at hi
  | pulled data hi => exact absurd hi (ne_pull_of_not_hostSide hhost)
  | _ => exact ⟨fun _ => rfl, rfl, rfl⟩

end

/-- Settles O50. -/
theorem writeMatrix : Obligations.WriteMatrix := fun _ _ _ h =>
  have he := effect_of_exec h
  ⟨he.loco, he.cv, he.lib, he.sameCaches, he.sameOutbound, he.surround⟩

/-- Settles O52: no effect of an instruction does, and a step adds only the idle step and the reset. -/
theorem constantsNeverWritten : Obligations.ConstantsNeverWritten := by
  intro s t h
  obtain hstep | ⟨rest, hin, hstep⟩ | ⟨p, rest, i, hin, hstep⟩ | ⟨p, rest, hin, hstep⟩ := step_kinds s <;>
    rw [hstep] at h
  · obtain rfl := Host.Outcome.next.inj h
    exact ⟨rfl, fun _ => rfl⟩
  · obtain rfl := Host.Outcome.next.inj h
    exact ⟨rfl, fun hne => absurd (by rw [hin]; rfl) hne⟩
  · have he := effect_of_exec h
    exact ⟨he.surround.cfg, fun _ => he.lib⟩
  · obtain rfl := Host.Outcome.next.inj h
    exact ⟨rfl, fun _ => rfl⟩

/-- Settles O53: the tags that PROCESS answers are those of the three inbound effects. -/
theorem tagsNeverProduced : Obligations.TagsNeverProduced := by
  intro i s t st ev h hr
  cases effect_of_exec h with
  | answered st' ev' hi hst hfail hev =>
    obtain ⟨rfl, rfl⟩ : st' = st ∧ ev' = ev := by simpa using hr
    exact fun hmem => hev (List.mem_cons_of_mem _ (List.mem_cons_of_mem _ hmem))
  | wroteCv =>
    obtain ⟨rfl, rfl⟩ : Status.ok = st ∧ EventTag.cvResult = ev := by simpa using hr
    decide
  | wroteLoco =>
    obtain ⟨rfl, rfl⟩ : Status.ok = st ∧ EventTag.locoInfo = ev := by simpa using hr
    decide
  | accessed r hi hok hnot => exact absurd (by simpa using hr) (hnot st ev)
  | _ => simp at hr

/-! What an instruction cannot see. -/

/-- A read of `TXBUF` sees its bytes and the configuration. -/
theorem readTxBytes_congr {s s' : State} (hcfg : s'.cfg = s.cfg) (htxbuf : s'.txbuf = s.txbuf) (i n : Nat) :
    readTxBytes s' i n = readTxBytes s i n := by
  induction n generalizing i with
  | zero => rfl
  | succ n ih => simp only [readTxBytes, readTx, hcfg, htxbuf, ih]

/-- No instruction sees the response of the step before. -/
theorem exec_respond (i : Instr) (s : State) (r : Response) : exec i (s.respond r) = exec i s := by
  obtain hi | rfl | hi | hi := instr_kinds i
  · obtain ⟨st, -, hexec⟩ | ⟨f, -, hexec⟩ := composes_uniform s hi <;>
      rw [hexec s rfl, hexec (s.respond r) rfl] <;> rfl
  · show pullFrame (s.respond r) = pullFrame s
    simp only [pullFrame, readTxBytes_congr (s.respond_cfg r) (s.respond_txbuf r)]
    rfl
  · obtain ⟨r', -, -, hexec⟩ := exec_of_accesses hi s
    exact (hexec (some r)).trans (hexec s.response).symm
  · obtain ⟨st, ev, -, -, -, hexec⟩ | ⟨c, hexec⟩ | ⟨c, n, hexec⟩ := inbound_cases s hi
    · rw [hexec s rfl, hexec (s.respond r) rfl]
      rfl
    · rw [hexec s, hexec (s.respond r)]
      rfl
    · rw [hexec s rfl rfl, hexec (s.respond r) rfl rfl]
      rfl

/-- Settles O51: the inbound effects are fixed by the configuration and the draw number, and the outbound ones by the
configuration and the outbound registers. -/
theorem halvesShareNoState : Obligations.HalvesShareNoState := by
  refine ⟨fun i s s' t hi hcfg hcaches hdraws h => ?_, fun i s s' t hi hcfg htxbuf hlen hready h => ?_⟩
  · obtain ⟨hloco, hcv, hlib⟩ := hcaches
    obtain ⟨st, ev, -, -, -, hexec⟩ | ⟨c, hexec⟩ | ⟨c, n, hexec⟩ := inbound_cases s hi
    · obtain rfl := Host.Outcome.next.inj ((hexec s rfl).symm.trans h)
      exact ⟨_, hexec s' hcfg, rfl, hloco, hcv, hlib⟩
    · obtain rfl := Host.Outcome.next.inj ((hexec s).symm.trans h)
      exact ⟨_, hexec s', rfl, hloco, rfl, hlib⟩
    · obtain rfl := Host.Outcome.next.inj ((hexec s rfl rfl).symm.trans h)
      exact ⟨_, hexec s' hcfg hdraws, rfl, rfl, hcv, hlib⟩
  obtain hi | rfl := hi
  · obtain ⟨st, -, hexec⟩ | ⟨f, -, hexec⟩ := composes_uniform s hi
    · obtain rfl := Host.Outcome.next.inj ((hexec s rfl).symm.trans h)
      exact ⟨_, hexec s' hcfg, rfl, fun _ => by simp [htxbuf], hlen, hready⟩
    · obtain rfl := Host.Outcome.next.inj ((hexec s rfl).symm.trans h)
      exact ⟨_, hexec s' hcfg, rfl, fun _ => by simp [htxbuf], rfl, rfl⟩
  · obtain ⟨hflag, rfl⟩ | ⟨hflag, data, hdata, rfl⟩ := pull_next h
    · exact ⟨_, pullFrame_empty (hready.trans hflag), rfl, fun _ => by simp [htxbuf], hlen, hready⟩
    · refine ⟨s'.clearReady.respond (.pull .ok true s'.txLen data), ?_, by simp [hlen], fun _ => by simp [htxbuf],
        hlen, rfl⟩
      show pullFrame s' = _
      simp only [pullFrame, hready, hflag, if_true, hlen, readTxBytes_congr hcfg htxbuf, hdata]

/-! Statuses (60_exceptions.md R210 to R212). -/

/-- An answer other than OK stands beside an unchanged state and no event. -/
theorem Effect.of_not_ok {i : Instr} {s t : State} {r : Response} (h : Effect i s t) (hr : t.response = some r)
    (hne : responseStatus r ≠ .ok) : t = s.respond r ∧ ∀ st ev, r = .process st ev → ev = .noEvent := by
  cases h with
  | refused st =>
    obtain rfl : Response.status st = r := by simpa using hr
    exact ⟨rfl, by simp⟩
  | answered st ev hi hst hfail =>
    obtain rfl : Response.process st ev = r := by simpa using hr
    refine ⟨rfl, fun st' ev' heq => ?_⟩
    obtain ⟨rfl, rfl⟩ : st = st' ∧ ev = ev' := by simpa using heq
    exact hfail hne
  | accessed r' hi hok =>
    obtain rfl : r' = r := by simpa using hr
    exact absurd hok hne
  | _ =>
    obtain rfl := Option.some.inj hr
    exact absurd rfl hne

/-- Settles O48. -/
theorem refusalWritesNothing : Obligations.RefusalWritesNothing := by
  refine ⟨fun i s t r h hr hne => ?_, fun s t p rest r hin h hr hne => ?_⟩
  · obtain ⟨rfl, hev⟩ := (effect_of_exec h).of_not_ok hr hne
    exact ⟨rfl, fun j => exec_respond j s r, hev⟩
  · cases hp : readPort s p with
    | ok i => exact ((effect_of_exec ((step_command hin hp).symm.trans h)).of_not_ok hr hne).1
    | error e =>
      cases e
      obtain rfl := Host.Outcome.next.inj ((step_undefined hin hp).symm.trans h)
      obtain rfl : Response.status .eCmd = r := by simpa using hr
      rfl

theorem ok_mem_statuses (i : Instr) : Status.ok ∈ statuses i := by
  cases i <;> exact List.mem_cons_self

theorem statuses_of_not_hostSide {i : Instr} (h : hostSide i = false) : statuses i = [.ok, .rxFail, .rxTrunc] := by
  cases i <;> simp_all [hostSide, statuses]

theorem packSpeed_error_mem {c : Config} {steps : StepMode} {speed : BitVec 7} {st : Status}
    (h : packSpeed c steps speed = .error st) : st ∈ [Status.ok, .eSteps, .eSpeed] := by
  cases steps <;> simp only [packSpeed] at h
  case steps14 => split at h <;> simp_all
  case steps28 => split at h <;> simp_all
  case steps128 => cases h
  case unknown => simp_all

/-- An operation that expands to a short enough COMPOSE with a payload answers OK, in every admissible
configuration. -/
theorem response_of_expansion {i : Instr} {s t : State} {group b : Byte} {bs : List Byte} {cs : Bool}
    (hexec : exec i s = compose group (b :: bs) cs s) (hok : s.cfg.Ok) (hl : bs.length ≤ 16)
    (h : exec i s = .next t) : t.response = some (.status .ok) := by
  obtain ⟨t', ht', hc⟩ := composed_of_expansion hexec hok hl rfl
  obtain rfl := Host.Outcome.next.inj (ht'.symm.trans h)
  exact hc.answer

/-- A command that composes answers a status of its own list, in every admissible configuration. -/
theorem composes_status_mem {i : Instr} {s t : State} {st : Status} (hi : composes i = true) (hok : s.cfg.Ok)
    (h : exec i s = .next t) (hr : t.response = some (.status st)) : st ∈ statuses i := by
  have haccepted {group b : Byte} {bs : List Byte} {cs : Bool} (hexec : exec i s = compose group (b :: bs) cs s)
      (hl : bs.length ≤ 16) : st ∈ statuses i := by
    obtain rfl : Status.ok = st := by simpa [response_of_expansion hexec hok hl h] using hr
    exact ok_mem_statuses i
  have hrefused {st' : Status} (hexec : exec i s = refuse st' s) (hmem : st' ∈ statuses i) : st ∈ statuses i := by
    obtain rfl := Host.Outcome.next.inj (hexec.symm.trans h)
    obtain rfl : st' = st := by simpa using hr
    exact hmem
  cases i <;> simp only [composes, Bool.false_eq_true] at hi
  case compose group payload cs =>
    have hst := (compose_response h).symm.trans hr
    simp only [Option.some.injEq, Response.status.injEq] at hst
    rw [← hst]
    split
    · simp [statuses]
    split <;> simp [statuses]
  case setLocoDrive addr steps speed dir =>
    cases hop : stepOpcode steps with
    | none => exact hrefused (st' := .eSteps) (by simp only [exec, execSetLocoDrive, hop]) (by simp [statuses])
    | some op =>
      cases hv : packSpeed s.cfg steps speed with
      | error st' => exact hrefused (exec_setLocoDrive_of_error hop hv) (packSpeed_error_mem hv)
      | ok v => exact haccepted (exec_setLocoDrive_of_ok hop hv) (by simp)
  case setLocoFunc addr fn mode =>
    cases hf : funcByte mode fn with
    | none => exact hrefused (st' := .eOperand) (by simp only [exec, execSetLocoFunc, hf]) (by simp [statuses])
    | some fb => exact haccepted (exec_setLocoFunc_of_some hf s) (by simp)
  case setTurnout taddr tdir =>
    cases hd : turnoutByte tdir with
    | none => exact hrefused (st' := .eOperand) (by simp only [exec, execSetTurnout, hd]) (by simp [statuses])
    | some dc => exact haccepted (exec_setTurnout_of_some hd s) (by simp)
  case getStatus => exact haccepted (exec_getStatus s) (by simp)
  case trackOff => exact haccepted (exec_trackOff s) (by simp)
  case trackOn => exact haccepted (exec_trackOn s) (by simp)
  case getFwVersion => exact haccepted (exec_getFwVersion s) (by simp)
  case setBcast flags => exact haccepted (exec_setBcast s flags) (by simp)
  case getLocoInfo addr => exact haccepted (exec_getLocoInfo s addr) (by simp)
  case cvRead cv => exact haccepted (exec_cvRead s cv) (by simp)
  case cvWrite cv val => exact haccepted (exec_cvWrite s cv val) (by simp)

/-- Settles O49: OK is in every list, a composer's refusal is in its own, and PROCESS has one list for its rows. -/
theorem statusesPerCommand : Obligations.StatusesPerCommand := by
  intro i s t hok h
  cases effect_of_exec h with
  | refused st hi => exact ⟨_, rfl, composes_status_mem hi hok h rfl⟩
  | answered st ev hi hst => exact ⟨_, rfl, by rwa [statuses_of_not_hostSide hi]⟩
  | accessed r hi hr => exact ⟨r, rfl, hr ▸ ok_mem_statuses i⟩
  | _ => exact ⟨_, rfl, ok_mem_statuses i⟩

/-- Settles O47. -/
theorem accessorsAnswerAndWriteNothing : Obligations.AccessorsAnswerAndWriteNothing :=
  ⟨fun fill _ => decode_rdLoco fill, fun fill _ => decode_rdCv fill, fun fill _ => decode_rdLib fill,
    fun fill _ => decode_rdReady fill, fun _ => ⟨rfl, rfl, rfl, rfl⟩⟩

/-- Settles O54, by evaluating the three lists of codes. -/
theorem numericCodes : Obligations.NumericCodes := ⟨rfl, rfl, rfl⟩

end Sys2Proof.Machine
end

section
/-! SUPPORT. Proofs of the statements on single steps and reset (00_scope.md R6, 60_exceptions.md R220,
70_reset_and_hazards.md R240, 10_state.md R42). -/

namespace Sys2Proof.Machine

/-- Settles O1. -/
theorem stepRunsDecodedCommand : Obligations.StepRunsDecodedCommand := fun _ _ _ _ hin hp => step_command hin hp

/-- Settles O2: the port decodes to nothing. -/
theorem undefinedCommandAnswersECmd : Obligations.UndefinedCommandAnswersECmd := fun s _ _ hin hcode =>
  step_undefined hin (decode_undefined (Config.undrivenByte s.draws) hcode)

/-- Settles O3. -/
theorem noCommandChangesNothing : Obligations.NoCommandChangesNothing := fun s hin => by
  rw [step_idle hin, idle, State.take, ← hin]

/-- Settles O4: the state after a reset has nothing pending. -/
theorem resetStepClearsPending : Obligations.ResetStepClearsPending := fun s rest hin =>
  ⟨assertReset s rest, step_reset hin, rfl, rfl, rfl, rfl, rfl, exec_pull_empty rfl⟩

/-- Settles O5. -/
theorem resetValues : Obligations.ResetValues := ⟨rfl, rfl, default_cfg_ok, exec_pull_empty rfl, rfl⟩

end Sys2Proof.Machine
end
